-- ==== Sys2Proof/Word.lean ====
section
/-! DEFINITION. The widths of 00_scope R7, R8 and 10_state: bytes, clock values, coordinates, button words. -/

namespace Sys2Proof

/-- One byte of the stream, of a packet or of `buf`; bit 0 is the least significant (R8). -/
abbrev Byte := BitVec 8

/-- A value on `CLK_IN` or in a TIME register: an unsigned 64-bit count of nanoseconds (R7). -/
abbrev Clk := BitVec 64

/-- A time as the integer the rules compare (R152). Event timestamps and the deadline of the button-up are held so:
natural numbers have no overflow (93 U5, log entry 4). -/
abbrev Time := Nat

/-- `x`, `prevX`, `refX`: 11 bits, unsigned (R20, R22, R122). -/
abbrev XCoord := BitVec 11

/-- `y`, `prevY`, `refY`: 10 bits, unsigned (R20, R22, R123). -/
abbrev YCoord := BitVec 10

/-- A button word: bit 0 left, bit 1 right, bit 2 middle (R80, R126). -/
abbrev Buttons := BitVec 3

end Sys2Proof
end

