-- ==== Sys2Proof/Config.lean ====
section
/-! DEFINITION. What is fixed for one block: the constants of 00_scope R7, the OPEN parameters of R7 as a record the
model takes as an argument, and the free values. -/

namespace Sys2Proof

/-- `BUF_CAP`: the capacity of `buf` in bytes (R7). -/
def Config.bufCap : Nat := 6
/-- `LEN_REL`: the length at which a relative packet is emitted (R7, R103). -/
def Config.lenRel : Nat := 4
/-- `LEN_ABS`: the length at which an absolute packet is emitted (R7, R103). -/
def Config.lenAbs : Nat := 6
/-- `EDGE_X`: the right-edge threshold of step 1 (R7, R156). -/
def Config.edgeX : Nat := 900
/-- `EDGE_Y`: the bottom-edge threshold of step 1 (R7, R156). -/
def Config.edgeY : Nat := 650
/-- `Z_TWOFINGER`: the two-finger entry pressure of step 2 (R7, R158). -/
def Config.zTwoFinger : Nat := 100
/-- `Z_BAND_LO`: the lower end of the pressure band, excluded (R7, R160). -/
def Config.zBandLo : Nat := 20
/-- `Z_BAND_HI`: the upper end of the pressure band, excluded (R7, R160). -/
def Config.zBandHi : Nat := 69
/-- `SCROLL_DELAY_THRESH`: the debounce threshold of step 5 (R7, R163). -/
def Config.scrollDelayThresh : Nat := 21
/-- `TF_GATE`: the two-finger gate of step 4 (R7, R162). -/
def Config.tfGate : Nat := 4
/-- The denominator of `A` above the floor: 1966.08 × 375.0 (`ACCEL_DIV1`, `ACCEL_DIV2`; R7, R206). -/
def Config.accelUnit : Int := 737280
/-- The reciprocal of `ACCEL_FLOOR` = 0.01 (R7, R206). -/
def Config.accelFloorInv : Int := 100
/-- `TAP_BUTTON`: the synthetic click presses bit 0, the left button (R7, R174; PRESUMED by the spec, GK5). -/
def Config.tapButton : Buttons := 1

/-- The OPEN parameters of R7, which "the model takes as an argument". -/
structure Params where
  /-- `ACK_CODE`, the hardware's acknowledgment code. -/
  ackCode : Byte
  /-- `HDR_MASK` of the header-bit check. -/
  hdrMask : Byte
  /-- `HDR_VALUE` of the header-bit check: a start byte passes iff its masked bits are this value. -/
  hdrValue : Byte
  /-- `WARMUP_PACKETS`, 0..255. -/
  warmupPackets : BitVec 8
  /-- `TAP_UP_DELAY`, a TIME value greater than 0. -/
  tapUpDelay : Clk
deriving DecidableEq, Repr

/-- Free value: what `TAP_UP_DELAY` is made from (R7: OPEN, no default; log entry 2). -/
opaque Config.tapUpDelayRaw : Clk

/-- `TAP_UP_DELAY` at reset: some TIME value greater than 0, which one is not known (R7; log entry 2). -/
def Config.tapUpDelay : Clk := if Config.tapUpDelayRaw = 0 then 1 else Config.tapUpDelayRaw

/-- The parameters with the defaults R7 gives; `TAP_UP_DELAY` has none and is a free value (log entries 2 and 15). -/
def Config.params : Params where
  ackCode := 0xFA
  hdrMask := 0x08
  hdrValue := 0x08
  warmupPackets := 3
  tapUpDelay := Config.tapUpDelay

/-- `p[0]` of an `ABS` line that names no `b0` (R93). -/
def Config.absFirstByte : Byte := 0x08

/-- Free value: what `CLK_IN` holds at operation `n` of a script where that operation writes no `@t`. R92 gives none;
only a `FEED` that completes a packet samples it, where R92 asks for an `@t` (DESIGN CHOICE, log entry 26). -/
opaque Config.freeClk : Nat → Clk

/-- Free value: what a byte of `buf` that nothing has written holds (R11, 93 U1; log entry 3). -/
opaque Config.freeBufByte : Nat → Byte

end Sys2Proof
end

