-- ==== Sys2Proof/Syntax.lean ====
section
/-! DEFINITION. The operations of the block, one constructor per row of the opcode table (30_encoding R82), the values
they carry, the words on the ports, and the stimulus script of R92. -/

namespace Sys2Proof

/-- `PKT_MODE` (R37). -/
inductive PktMode where
  | rel4
  | abs6
deriving DecidableEq, Repr

/-- `ScrollRegion` (R9, R156). -/
inductive Region where
  | none
  | v
  | h
deriving DecidableEq, Repr

/-- `touchMode` (R23). -/
inductive TouchMode where
  | noTouch
  | move
  | vScroll
  | multiTouch
deriving DecidableEq, Repr

/-- The three bytes of a `PKT.REL3`, in arrival order (R73). -/
structure Pkt3 where
  p0 : Byte
  p1 : Byte
  p2 : Byte
deriving DecidableEq, Repr

/-- The four bytes of a `PKT.REL4`, in arrival order (R74). -/
structure Pkt4 where
  p0 : Byte
  p1 : Byte
  p2 : Byte
  p3 : Byte
deriving DecidableEq, Repr

/-- The six bytes of a `PKT.ABS6`, in arrival order (R72). -/
structure Pkt6 where
  p0 : Byte
  p1 : Byte
  p2 : Byte
  p3 : Byte
  p4 : Byte
  p5 : Byte
deriving DecidableEq, Repr

/-- The operations of R82. A port operation carries the operands of R81; a start-byte class carries the byte; a packet
format or a decoder carries the packet and, where it emits, the dispatch clock value; a classifier stage carries the
operands its rule lists; an output event carries the fields of R80. -/
inductive Instr where
  /-- `RESET` (R260). -/
  | reset
  /-- `FEED b @t` (R100). -/
  | feed (b : Byte) (t : Clk)
  /-- `START.ACK`: the byte is the acknowledgment code (R71, R101). -/
  | startAck (b : Byte)
  /-- `START.BADHDR`: the byte fails the header check (R71, R101). -/
  | startBadhdr (b : Byte)
  /-- `START.OK`: the byte may start a packet (R71, R102). -/
  | startOk (b : Byte)
  /-- `PKT.REL4` (R74, R104). -/
  | pktRel4 (p : Pkt4) (now : Clk)
  /-- `PKT.ABS6` (R72, R105). -/
  | pktAbs6 (p : Pkt6) (now : Clk)
  /-- `PKT.REL3` (R73, R137). -/
  | pktRel3 (p : Pkt3) (now : Clk)
  /-- `DEC.ABS` (R121). -/
  | decAbs (p : Pkt6)
  /-- `DEC.REL3` (R137). -/
  | decRel3 (p : Pkt3) (now : Clk)
  /-- `DEC.REL4` (R138). -/
  | decRel4 (p : Pkt4) (now : Clk)
  /-- `G.REGION` (R156). -/
  | gRegion (x : XCoord) (y : YCoord)
  /-- `G.TFENTRY` (R158). -/
  | gTfentry (x : XCoord) (y : YCoord) (z : Byte)
  /-- `G.WILLSCROLL` (R160). -/
  | gWillscroll (z : Byte) (region : Region)
  /-- `G.TFSCROLL` (R162). -/
  | gTfscroll (x : XCoord) (y : YCoord) (now : Clk)
  /-- `G.EDGESCROLL` (R164). -/
  | gEdgescroll (x : XCoord) (y : YCoord) (region : Region) (now : Clk)
  /-- `G.MOVE` (R166). -/
  | gMove (x : XCoord) (y : YCoord) (tap : Bool) (buttons : Buttons) (now : Clk)
  /-- `G.TAPCLICK` (R170). -/
  | gTapclick (tap tapClick : Bool) (buttons : Buttons) (now : Clk)
  /-- `G.COMMIT` (R180). -/
  | gCommit (x : XCoord) (y : YCoord) (z : Byte) (region : Region) (tap tapClick : Bool) (buttons : Buttons)
  /-- `MODEW m` (R204). -/
  | modew (m : PktMode)
  /-- `CFGW 1, v` (R202). -/
  | cfgwClicking (v : BitVec 64)
  /-- `CFGW 2, v` (R202). -/
  | cfgwDragging (v : BitVec 64)
  /-- `CFGW 3, v` (R202). -/
  | cfgwDraglock (v : BitVec 64)
  /-- `CFGW 4, v` (R202). -/
  | cfgwHscrollEn (v : BitVec 64)
  /-- `CFGW 5, v` (R202). -/
  | cfgwVscrollEn (v : BitVec 64)
  /-- `CFGW 6, v` (R202). -/
  | cfgwScrollAccelRaw (v : BitVec 64)
  /-- `CFGW 7, v` (R202). -/
  | cfgwPointerAccelRaw (v : BitVec 64)
  /-- `CFGW 8, v` (R202). -/
  | cfgwMaxTapTime (v : BitVec 64)
  /-- `CFGW r, v` with `r` in 9..15, or 0 (R202, 93 U13). -/
  | cfgwIgnored (r : BitVec 4) (v : BitVec 64)
  /-- `TIMER.EXPIRE` (R212). -/
  | timerExpire
  /-- `EV.MOTION` (R80). -/
  | evMotion (dx dy : BitVec 32) (buttons : Buttons) (ts : Clk)
  /-- `EV.SCROLL` (R80). -/
  | evScroll (v h : BitVec 32) (ts : Clk)
deriving DecidableEq, Repr

/-- The input ports of R3 on which an operation arrives; an operation is identified by its port (R81). -/
inductive Port where
  | rst
  | byteIn
  | mode
  | cfg
deriving DecidableEq, Repr

/-- One word on a port: the port, the operand bits as bytes with bit 0 of the first byte lowest, and the value on
`CLK_IN` (DESIGN CHOICE, log entry 10; R81 gives the operands and no layout). -/
structure PortWord where
  port : Port
  bytes : List Byte
  clk : Clk
deriving DecidableEq, Repr

/-- One operation of a stimulus script (R92). -/
inductive ScriptOp where
  /-- `RESET` -/
  | reset
  /-- `MODEW m` -/
  | modew (m : PktMode)
  /-- `CFGW r, v` -/
  | cfgw (r : BitVec 4) (v : BitVec 64)
  /-- `FEED b [@t]`, `none` where `@t` is omitted -/
  | feed (b : Byte) (t : Option Clk)
deriving DecidableEq, Repr

/-- One line of a stimulus script: an operation (R92) or a pseudo-operation (R93). -/
inductive ScriptLine where
  /-- An operation, one to a line. -/
  | op (o : ScriptOp)
  /-- `ABS x, y, z [, L] [, R] [, TAP] [, TC] [, b0=<byte>] @t`, `none` where `b0` is omitted -/
  | abs (x : XCoord) (y : YCoord) (z : Byte) (left right tap tapClick : Bool) (b0 : Option Byte) (t : Clk)
  /-- `REL4 dxr, dyr, btn, w @t` -/
  | rel4 (dxr dyr : BitVec 9) (btn : BitVec 3) (w : BitVec 4) (t : Clk)
deriving DecidableEq, Repr

/-- The binary encoding of `PKT_MODE` (R36, D10). -/
def PktMode.code : PktMode → BitVec 1
  | .rel4 => 0
  | .abs6 => 1

/-- The binary encoding of `prevRegion` (R27, D10). -/
def Region.code : Region → BitVec 2
  | .none => 0
  | .v => 1
  | .h => 2

/-- The binary encoding of `touchMode` (R23, D10). -/
def TouchMode.code : TouchMode → BitVec 2
  | .noTouch => 0
  | .move => 1
  | .vScroll => 2
  | .multiTouch => 3

end Sys2Proof
end

