-- ==== Sys2Proof/WellFormed.lean ====
section
/-! DEFINITION. Which operations are ones the block can meet: the operand ranges the rules state beyond the widths. -/

namespace Sys2Proof

/-- The values `refuse`d by 93 U7 are left out: a zero delay, and a header value with bits outside the mask. -/
def Params.legal (par : Params) : Bool :=
  par.tapUpDelay != 0 && (par.hdrValue &&& ~~~par.hdrMask) == 0

/-- The values the `buttons` word of an absolute packet takes: `middle = left and right` (R126). -/
def Buttons.wf (b : Buttons) : Bool :=
  b.getLsbD 2 == (b.getLsbD 0 && b.getLsbD 1)

/-- The operand checks of each operation, under the parameters `par`. -/
def Instr.wf (par : Params) : Instr → Bool
  | .reset => true
  | .feed _ _ => true
  | .startAck b => b == par.ackCode
  | .startBadhdr b => b != par.ackCode && (b &&& par.hdrMask) != par.hdrValue
  | .startOk b => b != par.ackCode && (b &&& par.hdrMask) == par.hdrValue
  | .pktRel4 _ _ => true
  | .pktAbs6 _ _ => true
  | .pktRel3 _ _ => true
  | .decAbs _ => true
  | .decRel3 _ _ => true
  | .decRel4 _ _ => true
  | .gRegion _ _ => true
  | .gTfentry _ _ _ => true
  | .gWillscroll _ _ => true
  | .gTfscroll _ _ _ => true
  | .gEdgescroll _ _ region _ => region != .none
  | .gMove _ _ _ buttons _ => buttons.wf
  | .gTapclick _ _ buttons _ => buttons.wf
  | .gCommit _ _ _ _ _ _ buttons => buttons.wf
  | .modew _ => true
  | .cfgwClicking _ => true
  | .cfgwDragging _ => true
  | .cfgwDraglock _ => true
  | .cfgwHscrollEn _ => true
  | .cfgwVscrollEn _ => true
  | .cfgwScrollAccelRaw _ => true
  | .cfgwPointerAccelRaw _ => true
  | .cfgwMaxTapTime _ => true
  | .cfgwIgnored r _ => r == 0 || decide (8 < r.toNat)
  | .timerExpire => true
  | .evMotion _ _ _ _ => true
  | .evScroll _ _ _ => true

/-- The operand checks of one operation of a script: `CFGW` takes a register number 1..15 (R81, R92). -/
def ScriptOp.wf : ScriptOp → Bool
  | .reset => true
  | .modew _ => true
  | .cfgw r _ => r != 0
  | .feed _ _ => true

/-- The operand checks of one line of a script: the first byte of an `ABS` line, named or not, is in class `START.OK`
(R93). -/
def ScriptLine.wf (par : Params) : ScriptLine → Bool
  | .op o => o.wf
  | .abs _ _ _ _ _ _ _ b0 _ => (Instr.startOk (b0.getD Config.absFirstByte)).wf par
  | .rel4 _ _ _ _ _ => true

end Sys2Proof
end

