-- ==== Sys2Proof/Decode.lean ====
section
/-! DEFINITION. Decoding: the start-byte classes (R71), the words on the ports (R81), the packet formats by length
(R72 to R74), and the encoders, the pseudo-operations of R93 among them. -/

namespace Sys2Proof

/-- Why a word is no operation: it does not have the operands R81 gives its port, or a packet has no length of R79.
The ports of the hardware cannot deliver such a word (log entry 23). -/
inductive DecodeError where
  | rstOperand
  | byteLength
  | modeLength
  | modeValue
  | cfgLength
  | cfgNumber
  | packetLength
deriving DecidableEq, Repr

/-- The classes of a byte that arrives while `count = 0` (R71). -/
inductive StartClass where
  | ack
  | badhdr
  | ok
deriving DecidableEq, Repr

/-- The class of a byte: tested in the order of R71, the acknowledgment code first. -/
def startClass (par : Params) (b : Byte) : StartClass :=
  if b = par.ackCode then .ack
  else if b &&& par.hdrMask = par.hdrValue then .ok
  else .badhdr

/-- The start-byte operation of a byte. -/
def startInstr (par : Params) (b : Byte) : Instr :=
  match startClass par b with
  | .ack => .startAck b
  | .badhdr => .startBadhdr b
  | .ok => .startOk b

/-- The number whose bytes, the lowest first, these are. -/
def leNat : List Byte → Nat
  | [] => 0
  | b :: bs => b.toNat + 256 * leNat bs

/-- The lowest `k` bytes of `n`, the lowest first. -/
def leBytes : Nat → Nat → List Byte
  | 0, _ => []
  | k + 1, n => BitVec.ofNat 8 n :: leBytes k (n / 256)

/-- `CFGW r, v`: the operation of the register number (R36, R202; 0 is ignored, 93 U13). -/
def cfgInstr (r : BitVec 4) (v : BitVec 64) : Instr :=
  match r.toNat with
  | 1 => .cfgwClicking v
  | 2 => .cfgwDragging v
  | 3 => .cfgwDraglock v
  | 4 => .cfgwHscrollEn v
  | 5 => .cfgwVscrollEn v
  | 6 => .cfgwScrollAccelRaw v
  | 7 => .cfgwPointerAccelRaw v
  | 8 => .cfgwMaxTapTime v
  | _ => .cfgwIgnored r v

/-- A word on `BYTE_IN`: one byte. While the framer is SEEKING the byte is in one of the start classes (R71); while it
is ACCUMULATING there are no classes and it is a `FEED` (R107). -/
def decodeByteIn (par : Params) (seeking : Bool) (bytes : List Byte) (clk : Clk) : Except DecodeError Instr :=
  match bytes with
  | [b] => .ok (if seeking then startInstr par b else .feed b clk)
  | _ => .error .byteLength

/-- A word on `MODE`: one bit, 0 = `REL4`, 1 = `ABS6` (R81), in a byte of its own. -/
def decodeMode (bytes : List Byte) : Except DecodeError Instr :=
  match bytes with
  | [m] => if m = 0 then .ok (.modew .rel4) else if m = 1 then .ok (.modew .abs6) else .error .modeValue
  | _ => .error .modeLength

/-- A word on `CFG`: the register number in a byte, then the 64 bits of the value, the lowest byte first (R81). -/
def decodeCfg (bytes : List Byte) : Except DecodeError Instr :=
  match bytes with
  | r :: v =>
    if v.length ≠ 8 then .error .cfgLength
    else if r.toNat < 16 then .ok (cfgInstr (r.setWidth 4) (BitVec.ofNat 64 (leNat v)))
    else .error .cfgNumber
  | [] => .error .cfgLength

/-- The operation of a port word, where the framer is SEEKING (`count = 0`) or not. Total; an ill-formed word is
rejected by name. -/
def decode (par : Params) (seeking : Bool) (w : PortWord) : Except DecodeError Instr :=
  match w.port with
  | .rst => if w.bytes = [] then .ok .reset else .error .rstOperand
  | .byteIn => decodeByteIn par seeking w.bytes w.clk
  | .mode => decodeMode w.bytes
  | .cfg => decodeCfg w.bytes

/-- The packet format of a whole packet, by its length: no bit of a packet tells its length (R79). -/
def decodePacket (bytes : List Byte) (now : Clk) : Except DecodeError Instr :=
  match bytes with
  | [p0, p1, p2] => .ok (.pktRel3 ⟨p0, p1, p2⟩ now)
  | [p0, p1, p2, p3] => .ok (.pktRel4 ⟨p0, p1, p2, p3⟩ now)
  | [p0, p1, p2, p3, p4, p5] => .ok (.pktAbs6 ⟨p0, p1, p2, p3, p4, p5⟩ now)
  | _ => .error .packetLength

/-! ### Encoders -/

/-- The word of `CFGW r, v`. -/
def cfgWord (r : BitVec 4) (v : BitVec 64) : PortWord :=
  ⟨.cfg, r.setWidth 8 :: leBytes 8 v.toNat, 0⟩

/-- The word of a byte on `BYTE_IN`. -/
def byteWord (b : Byte) (t : Clk) : PortWord := ⟨.byteIn, [b], t⟩

/-- The word of an operation that arrives on a port. An internal operation, a packet format and an output event have
no port word: they are selected by the path through `FEED`, not by bits (R70). -/
def encode : Instr → Option PortWord
  | .reset => some ⟨.rst, [], 0⟩
  | .feed b t => some (byteWord b t)
  | .startAck b => some (byteWord b 0)
  | .startBadhdr b => some (byteWord b 0)
  | .startOk b => some (byteWord b 0)
  | .pktRel4 _ _ => none
  | .pktAbs6 _ _ => none
  | .pktRel3 _ _ => none
  | .decAbs _ => none
  | .decRel3 _ _ => none
  | .decRel4 _ _ => none
  | .gRegion _ _ => none
  | .gTfentry _ _ _ => none
  | .gWillscroll _ _ => none
  | .gTfscroll _ _ _ => none
  | .gEdgescroll _ _ _ _ => none
  | .gMove _ _ _ _ _ => none
  | .gTapclick _ _ _ _ => none
  | .gCommit _ _ _ _ _ _ _ => none
  | .modew m => some ⟨.mode, [m.code.setWidth 8], 0⟩
  | .cfgwClicking v => some (cfgWord 1 v)
  | .cfgwDragging v => some (cfgWord 2 v)
  | .cfgwDraglock v => some (cfgWord 3 v)
  | .cfgwHscrollEn v => some (cfgWord 4 v)
  | .cfgwVscrollEn v => some (cfgWord 5 v)
  | .cfgwScrollAccelRaw v => some (cfgWord 6 v)
  | .cfgwPointerAccelRaw v => some (cfgWord 7 v)
  | .cfgwMaxTapTime v => some (cfgWord 8 v)
  | .cfgwIgnored r v => some (cfgWord r v)
  | .timerExpire => none
  | .evMotion _ _ _ _ => none
  | .evScroll _ _ _ => none

/-- The bytes of a packet format, in arrival order (R72 to R74). -/
def encodePacket : Instr → Option (List Byte)
  | .pktRel3 p _ => some [p.p0, p.p1, p.p2]
  | .pktRel4 p _ => some [p.p0, p.p1, p.p2, p.p3]
  | .pktAbs6 p _ => some [p.p0, p.p1, p.p2, p.p3, p.p4, p.p5]
  | _ => none

/-- Whether the operation is one of the start-byte classes, which exist only while the framer is SEEKING. -/
def Instr.isStartClass : Instr → Bool
  | .startAck _ => true
  | .startBadhdr _ => true
  | .startOk _ => true
  | _ => false

/-- The pseudo-operation `ABS` of R93: the six bytes of an absolute sample, every ignored bit 0. `p[0]` is `b0`, and
0x08 where the line names none. -/
def asmAbs (x : XCoord) (y : YCoord) (z : Byte) (left right tap tapClick : Bool) (b0 : Option Byte) : Pkt6 where
  p0 := b0.getD Config.absFirstByte
  p1 := (x.extractLsb' 0 7).setWidth 8
  p2 := ((x.extractLsb' 7 4).setWidth 8 <<< 3) ||| ((BitVec.ofBool tap).setWidth 8 <<< 1) ||| (BitVec.ofBool tapClick).setWidth 8
  p3 := ((y.extractLsb' 7 3).setWidth 8 <<< 4) ||| ((BitVec.ofBool right).setWidth 8 <<< 1) ||| (BitVec.ofBool left).setWidth 8
  p4 := (y.extractLsb' 0 7).setWidth 8
  p5 := z

/-- The pseudo-operation `REL4` of R93, the raw hardware values as the two's complement words they are. -/
def asmRel4 (dxr dyr : BitVec 9) (btn : BitVec 3) (w : BitVec 4) : Pkt4 where
  p0 := 0x08 ||| (if dyr.toInt < 0 then 0x20 else 0) ||| (if dxr.toInt < 0 then 0x10 else 0) ||| btn.setWidth 8
  p1 := dxr.setWidth 8
  p2 := dyr.setWidth 8
  p3 := w.setWidth 8

/-- The operations of one script line: a pseudo-operation expands to `FEED`s, the last with `@t` and the others without
(R93). -/
def ScriptLine.expand : ScriptLine → List ScriptOp
  | .op o => [o]
  | .abs x y z left right tap tapClick b0 t =>
    let p := asmAbs x y z left right tap tapClick b0
    [.feed p.p0 none, .feed p.p1 none, .feed p.p2 none, .feed p.p3 none, .feed p.p4 none, .feed p.p5 (some t)]
  | .rel4 dxr dyr btn w t =>
    let p := asmRel4 dxr dyr btn w
    [.feed p.p0 none, .feed p.p1 none, .feed p.p2 none, .feed p.p3 (some t)]

/-- The word of one operation of a script. `clk` is what `CLK_IN` holds where the operation writes no `@t`. -/
def ScriptOp.word (clk : Clk) : ScriptOp → PortWord
  | .reset => ⟨.rst, [], 0⟩
  | .modew m => ⟨.mode, [m.code.setWidth 8], 0⟩
  | .cfgw r v => cfgWord r v
  | .feed b t => byteWord b (t.getD clk)

/-- The words of a script's operations, the first of them its operation number `n`. Where an operation writes no `@t`
the clock holds a free value of its own (DESIGN CHOICE: R92 gives none; log entry 26). -/
def opWords : Nat → List ScriptOp → List PortWord
  | _, [] => []
  | n, o :: os => o.word (Config.freeClk n) :: opWords (n + 1) os

/-- The words of a script, top to bottom (R92). -/
def scriptWords (script : List ScriptLine) : List PortWord := opWords 0 (script.flatMap ScriptLine.expand)

/-! ### The opcode table's words -/

/-- The port word of a table row's bits where the row arrives on a port. The table gives a row no port (R81 tells an
operation by its port alone), so a one-byte word is ambiguous between `BYTE_IN` and the register number of `CFG`: it
is read as the row that fixes the most bits, a register number 1 to 8 before a header check. `CLK_IN` stands at 0
(DESIGN CHOICE: a table word gives no clock value; log entry 11). -/
def tablePortWord (nbits w : Nat) : PortWord :=
  if nbits = 0 then ⟨.rst, [], 0⟩
  else if nbits = 8 ∧ 1 ≤ w ∧ w ≤ 8 then ⟨.cfg, leBytes 9 w, 0⟩
  else if nbits = 72 then ⟨.cfg, leBytes 9 w, 0⟩
  else ⟨.byteIn, leBytes (nbits / 8) w, 0⟩

/-- Whether a table row's bits are a whole packet: 3, 4 or 6 bytes (R72 to R74). -/
def tableIsPacket (nbits : Nat) : Bool := nbits == 24 || nbits == 32 || nbits == 48

/-- What a decoder answers, without its reason. -/
def decoded (r : Except DecodeError Instr) : Option Instr :=
  match r with
  | .ok i => some i
  | .error _ => none

/-- The instruction the decoder reads from a table row's bits, as the first operation after reset. The lowest byte of the
bits is the first to arrive, `p[0]` of a packet (DESIGN CHOICE: R72 to R74 write `p[0]` first and number no packet as one
word; log entry 11). The framer is SEEKING and the parameters have their defaults. The dispatch clock value of a whole packet is 0 (DESIGN CHOICE: R72 to
R74 and the table give a packet's bytes and no clock value; log entry 11). -/
def decodeTableWord (nbits w : Nat) : Option Instr :=
  if tableIsPacket nbits then decoded (decodePacket (leBytes (nbits / 8) w) 0)
  else decoded (decode Config.params true (tablePortWord nbits w))

end Sys2Proof
end

