-- ==== Sys2Proof/Machine/State.lean ====
section
/-! DEFINITION. The state of one block instance (10_state R10), the reasons a step can stop, and the machine right
after reset (10_state R47). -/

namespace Sys2Proof.Machine

/-- There is no fault: "A model gives the block no fault outcome: every operation on every state has a next state"
(R233). No one raises one, so no claim about faults can be unsafe. -/
inductive Fault where
deriving DecidableEq, Repr

/-- Why a step gives no next state. -/
inductive Refusal where
  /-- Raised by `exec`'s arm of an instruction that has no meaning yet. Safe: nothing is claimed of it. -/
  | notModelled (mnemonic : String)
  /-- Raised by `step` for a word that is no operation of R81, which the hardware's ports cannot deliver. Safe: nothing
  is claimed of it (log entry 23). -/
  | undecodable (reason : DecodeError)
deriving DecidableEq, Repr

/-- The packet buffer `buf` (R11, R50): the bytes that have been written, by address. An address that is not listed
holds no known value. -/
abbrev Memory := List Host.Cell

/-- The canonical form of the packet buffer: addresses strictly rising, all in 0..5. An unlisted address has no known
value, so no entry can equal it. -/
def Memory.wf (m : Memory) : Bool :=
  m.all (fun c => decide (c.1 < Config.bufCap)) && decide (m.Pairwise fun c d => c.1 < d.1)

/-- MotionState: the registers of the classifier (R20 to R32). -/
structure MotionState where
  /-- R20 -/
  prevX : XCoord
  /-- R20 -/
  prevY : YCoord
  /-- R21 -/
  prevZ : Byte
  /-- R22 -/
  refX : XCoord
  /-- R22 -/
  refY : YCoord
  /-- R23 -/
  touchMode : TouchMode
  /-- R24, saturating at 255 -/
  cnt : BitVec 8
  /-- R25 -/
  lastTapTime : Clk
  /-- R26 -/
  twoFinger : Bool
  /-- R27 -/
  prevRegion : Region
  /-- R28 -/
  prevTapClick : Bool
  /-- R29, saturating at 255 -/
  warmCount : BitVec 8
  /-- R30 -/
  tapBtn : Bool
  /-- R31 -/
  tapArmed : Bool
  /-- R31; a natural number, so that `now + TAP_UP_DELAY` has no overflow (93 U5, log entry 4) -/
  tapDeadline : Time
  /-- R32 -/
  lastButtons : Buttons
deriving DecidableEq, Repr

/-- The configuration registers and `PKT_MODE` (R36). -/
structure ConfigRegs where
  /-- register 0, R37 -/
  pktMode : PktMode
  /-- register 1, R38 -/
  clicking : Bool
  /-- register 2, R39; read by nothing -/
  dragging : Bool
  /-- register 3, R40; read by nothing -/
  draglock : Bool
  /-- register 4, R41 -/
  hscrollEn : Bool
  /-- register 5, R42 -/
  vscrollEn : Bool
  /-- register 6, R43: signed, read as its `toInt` -/
  scrollAccelRaw : BitVec 32
  /-- register 7, R44: signed; read by nothing -/
  pointerAccelRaw : BitVec 32
  /-- register 8, R45 -/
  maxTapTime : Clk
deriving DecidableEq, Repr

/-- An output event (R80). The fields are the integers of R152; that each fits its field of R80 is stated of the
machine (R153), not built in. -/
inductive Event where
  /-- `MOTION(dx, dy, buttons, ts)` -/
  | motion (dx dy : Int) (buttons : Buttons) (ts : Time)
  /-- `SCROLL(v, h, ts)` -/
  | scroll (v h : Int) (ts : Time)
deriving DecidableEq, Repr

/-- The AbsoluteSample with its flags (R120, R121). -/
structure Sample where
  x : XCoord
  y : YCoord
  z : Byte
  left : Bool
  right : Bool
  middle : Bool
  tap : Bool
  tapClick : Bool
  buttons : Buttons
deriving DecidableEq, Repr

/-- The results of the internal operations that return a value and write no register (R46; log entry 7). -/
structure Results where
  /-- of `DEC.ABS` -/
  sample : Sample
  /-- of `G.REGION` -/
  region : Region
  /-- of `G.WILLSCROLL` -/
  willScroll : Bool
deriving DecidableEq, Repr

/-- The state of one block instance: `buf`, `count`, MotionState and the configuration registers are the spec's (R10);
`par`, `res`, `input` and `out` are the model's own (log entries 1, 7, 5 and 6). -/
structure State where
  /-- R11 -/
  buf : Memory
  /-- R12: 0..5 between operations (log entry 13) -/
  count : Fin 6
  /-- R20 to R32 -/
  mot : MotionState
  /-- R36 to R45 -/
  cfg : ConfigRegs
  /-- the OPEN parameters (R7), which no operation writes -/
  par : Params
  /-- results of internal operations run on their own -/
  res : Results
  /-- the rest of the stimulus script (R92) -/
  input : List PortWord
  /-- the events emitted so far, oldest first (R235, 93 U20) -/
  out : List Event
deriving DecidableEq, Repr

/-- MotionState after reset (R47). -/
def MotionState.reset : MotionState where
  prevX := 0
  prevY := 0
  prevZ := 0
  refX := 0
  refY := 0
  touchMode := .noTouch
  cnt := 0
  lastTapTime := 0
  twoFinger := false
  prevRegion := .none
  prevTapClick := false
  warmCount := 0
  tapBtn := false
  tapArmed := false
  tapDeadline := 0
  lastButtons := 0

/-- The configuration registers after reset (R47). -/
def ConfigRegs.reset : ConfigRegs where
  pktMode := .rel4
  clicking := true
  dragging := false
  draglock := false
  hscrollEn := true
  vscrollEn := true
  scrollAccelRaw := 737280
  pointerAccelRaw := 0
  maxTapTime := 200000000

/-- The result latches at reset (DESIGN CHOICE, log entry 7). -/
def Results.reset : Results where
  sample := ⟨0, 0, 0, false, false, false, false, false, 0⟩
  region := .none
  willScroll := false

/-- The machine right after reset (R47, R262): nothing written in `buf`, no operation pending, no event emitted. -/
def State.reset : State where
  buf := []
  count := 0
  mot := MotionState.reset
  cfg := ConfigRegs.reset
  par := Config.params
  res := Results.reset
  input := []
  out := []

end Sys2Proof.Machine
end

