-- ==== Sys2Proof/Machine/Operands.lean ====
section
/-! DEFINITION. The operand forms: the fields of the packets (30_encoding R75, R76), the normalised values of a
configuration write (R81), and the scaled delta (44_config_timer R206, R207). -/

namespace Sys2Proof.Machine

/-- Bit `i` of a byte (R8). -/
def byteBit (b : Byte) (i : Nat) : Bool := b.getLsbD i

/-- `x` = the low 7 bits of `p[1]` OR bits 3..6 of `p[2]` shifted left by 4, in place (R75, R122, conflict C11). -/
def absX (p : Pkt6) : XCoord :=
  (p.p1 &&& 0x7F).setWidth 11 ||| ((p.p2 &&& 0x78).setWidth 11 <<< 4)

/-- `y` = the low 7 bits of `p[4]` OR bits 4..6 of `p[3]` shifted left by 3, in place (R75, R123, conflict C11). -/
def absY (p : Pkt6) : YCoord :=
  (p.p4 &&& 0x7F).setWidth 10 ||| ((p.p3 &&& 0x70).setWidth 10 <<< 3)

/-- The `buttons` word: bit 0 left, bit 1 right, bit 2 middle (R126). -/
def buttonsWord (left right middle : Bool) : Buttons :=
  (BitVec.ofBool left).setWidth 3 ||| ((BitVec.ofBool right).setWidth 3 <<< 1) ||| ((BitVec.ofBool middle).setWidth 3 <<< 2)

/-- `DEC.ABS`: a pure function of the six bytes (R120, R121). -/
def decodeAbs (p : Pkt6) : Sample :=
  let left := byteBit p.p3 0
  let right := byteBit p.p3 1
  let middle := left && right
  { x := absX p
    y := absY p
    z := p.p5
    left := left
    right := right
    middle := middle
    tap := byteBit p.p2 1
    tapClick := byteBit p.p2 0
    buttons := buttonsWord left right middle }

/-- `sext_9` of a sign bit and a low byte (R8, R76). -/
def sext9 (sign : Bool) (low : Byte) : Int :=
  BitVec.toInt (BitVec.ofBool sign ++ low : BitVec 9)

/-- `dxr` of a relative packet: the sign is bit 4 of `p[0]` (R76, R136). -/
def relDx (p0 p1 : Byte) : Int := sext9 (byteBit p0 4) p1

/-- `dyr` of a relative packet: the sign is bit 5 of `p[0]` (R76, R136). -/
def relDy (p0 p2 : Byte) : Int := sext9 (byteBit p0 5) p2

/-- `btn` of a relative packet: bits 2:0 of `p[0]` (R76, R142). -/
def relBtn (p0 : Byte) : Buttons := p0.extractLsb' 0 3

/-- `w` of a relative packet: `sext_4` of bits 3:0 of `p[3]` (R76, R141). -/
def relWheel (p3 : Byte) : Int := (p3.extractLsb' 0 4).toInt

/-- The events of `DEC.REL3`: one `MOTION`, the vertical axis inverted (R137, R140). -/
def rel3Events (p : Pkt3) (now : Clk) : List Event :=
  [.motion (relDx p.p0 p.p1) (-relDy p.p0 p.p2) (relBtn p.p0) now.toNat]

/-- The events of `DEC.REL4`: the `MOTION`, then the `SCROLL` with the wheel inverted (R138, R140, R141). -/
def rel4Events (p : Pkt4) (now : Clk) : List Event :=
  [.motion (relDx p.p0 p.p1) (-relDy p.p0 p.p2) (relBtn p.p0) now.toNat, .scroll (-relWheel p.p3) 0 now.toNat]

/-- The value a 1-bit register receives from a configuration write (R81). -/
def cfgBool (v : BitVec 64) : Bool := decide (v ≠ 0)

/-- The value a signed 32-bit register receives from a configuration write: the low 32 bits (R81). -/
def cfgS32 (v : BitVec 64) : BitVec 32 := v.setWidth 32

/-- The factor `A` = max(raw / 737280, 1/100) as numerator and denominator (R206). -/
def accelFactor (raw : BitVec 32) : Int × Int :=
  if raw.toInt * Config.accelFloorInv < Config.accelUnit then (1, Config.accelFloorInv)
  else (raw.toInt, Config.accelUnit)

/-- `SCALE(d)` = trunc(d × A), toward zero (R207). -/
def scale (cfg : ConfigRegs) (d : Int) : Int :=
  (d * (accelFactor cfg.scrollAccelRaw).1).tdiv (accelFactor cfg.scrollAccelRaw).2

/-- A difference of two unsigned coordinates, on integers: it never wraps (R152). -/
def coordDiff {w : Nat} (a b : BitVec w) : Int := (a.toNat : Int) - (b.toNat : Int)

/-- `sgn(d)` (R8). -/
def sgn (d : Int) : Int := if d < 0 then -1 else if d = 0 then 0 else 1

/-- `sat8(n + 1)` (R8). -/
def satSucc (n : BitVec 8) : BitVec 8 := if n = 255 then 255 else n + 1

end Sys2Proof.Machine
end

