-- ==== Sys2Proof/Machine/Flags.lean ====
section
/-! DEFINITION. The one-bit conditions of 10_state R35 and 43_gesture: regions, enables, the pressure band, the path
selection, the tap time. -/

namespace Sys2Proof.Machine

/-- `x > EDGE_X`, strict (R156). -/
def inVertical (x : XCoord) : Bool := decide (Config.edgeX < x.toNat)

/-- `y > EDGE_Y`, strict (R156). -/
def inHorizontal (y : YCoord) : Bool := decide (Config.edgeY < y.toNat)

/-- The scroll region: in the corner `V` only if the last packet's region was `V`, else `H` (R156). -/
def regionOf (prev : Region) (x : XCoord) (y : YCoord) : Region :=
  if inVertical x && inHorizontal y then (if prev = .v then .v else .h)
  else if inVertical x then .v
  else if inHorizontal y then .h
  else .none

/-- "at least one scroll direction is enabled in configuration" (R158). -/
def anyScrollEnabled (cfg : ConfigRegs) : Bool := cfg.hscrollEn || cfg.vscrollEn

/-- Two-finger entry: the pressure, an enable, and not yet in the mode (R158). -/
def twoFingerEntry (cfg : ConfigRegs) (z : Byte) (m : MotionState) : Bool :=
  decide (Config.zTwoFinger ≤ z.toNat) && anyScrollEnabled cfg && !m.twoFinger

/-- The pressure band, both ends excluded (R160). -/
def inBand (z : Byte) : Bool := decide (Config.zBandLo < z.toNat) && decide (z.toNat < Config.zBandHi)

/-- The enable of the active region (R160). -/
def regionEnabled (cfg : ConfigRegs) : Region → Bool
  | .v => cfg.vscrollEn
  | .h => cfg.hscrollEn
  | .none => false

/-- `willScroll` (R160). -/
def willScrollFlag (cfg : ConfigRegs) (z : Byte) (region : Region) : Bool :=
  inBand z && regionEnabled cfg region

/-- The two-finger gate is open (R162). -/
def gateOpen (cnt : BitVec 8) : Bool := decide (Config.tfGate ≤ cnt.toNat)

/-- Stage 5 is selected, with `cnt` already updated: `willScroll` and (the count is past the threshold, or already
mid-scroll) (R161). -/
def edgeSelected (willScroll : Bool) (m : MotionState) : Bool :=
  willScroll && (decide (Config.scrollDelayThresh < m.cnt.toNat) || m.touchMode == .vScroll)

/-- The scroll reference is re-anchored: entering scroll, or the prior pressure was zero (R164). -/
def reanchors (m : MotionState) : Bool := m.touchMode != .vScroll || m.prevZ == 0

/-- The warm-up suppresses the delta (R167). -/
def warmingUp (par : Params) (m : MotionState) : Bool := decide (m.warmCount.toNat < par.warmupPackets.toNat)

/-- The contact duration is under `MAX_TAP_TIME`: on integers, strict (R174, D38). -/
def underTapTime (cfg : ConfigRegs) (now : Clk) (m : MotionState) : Bool :=
  decide ((now.toNat : Int) - (m.lastTapTime.toNat : Int) < (cfg.maxTapTime.toNat : Int))

/-- The release of the tap-click flag is a click (R174). -/
def isClick (cfg : ConfigRegs) (now : Clk) (m : MotionState) : Bool :=
  m.prevTapClick && cfg.clicking && underTapTime cfg now m

/-- The button word with the synthetic button pressed while `tapBtn` is 1 (R30, R166). -/
def heldButtons (m : MotionState) (buttons : Buttons) : Buttons :=
  buttons ||| (if m.tapBtn then Config.tapButton else 0)

/-- The scheduled button-up is due at `now` (R108). -/
def buttonUpDue (now : Clk) (m : MotionState) : Bool := m.tapArmed && decide (m.tapDeadline ≤ now.toNat)

end Sys2Proof.Machine
end

