-- ==== Sys2Proof/Machine/Ops.lean ====
section
/-! DEFINITION. The named operations over the packet buffer, the registers and the ports, which every meaning is
written in. -/

namespace Sys2Proof.Machine

/-- What an operation answers. -/
abbrev Result := Host.Outcome State Fault Refusal

/-! ### The packet buffer -/

/-- What has been written at an address, if anything. -/
def Memory.get? : Memory → Nat → Option Byte
  | [], _ => none
  | c :: m, a => if c.1 = a then some c.2 else Memory.get? m a

/-- One byte of `buf`; a byte that nothing has written is a free value (R11, 93 U1; log entry 3). -/
def Memory.read (m : Memory) (a : Nat) : Byte := (m.get? a).getD (Config.freeBufByte a)

/-- A write of one byte, in canonical form. -/
def Memory.write : Memory → Nat → Byte → Memory
  | [], a, b => [(a, b)]
  | c :: m, a, b => if a < c.1 then (a, b) :: c :: m else if a = c.1 then (a, b) :: m else c :: Memory.write m a b

/-- `buf[0..3]` (R104). -/
def Memory.pkt4 (m : Memory) : Pkt4 := ⟨m.read 0, m.read 1, m.read 2, m.read 3⟩

/-- `buf[0..5]` (R105). -/
def Memory.pkt6 (m : Memory) : Pkt6 := ⟨m.read 0, m.read 1, m.read 2, m.read 3, m.read 4, m.read 5⟩

/-! ### The parts of the state -/

/-- `buf[a] <- b`. -/
def State.bufWrite (s : State) (a : Nat) (b : Byte) : State := { s with buf := s.buf.write a b }

/-- `count <- n`. -/
def State.setCount (s : State) (n : Fin 6) : State := { s with count := n }

/-- MotionState replaced. -/
def State.setMot (s : State) (m : MotionState) : State := { s with mot := m }

/-- The configuration registers replaced. -/
def State.setCfg (s : State) (c : ConfigRegs) : State := { s with cfg := c }

/-- The result latches replaced. -/
def State.setRes (s : State) (r : Results) : State := { s with res := r }

/-- `emit`: the events leave on the event ports in this order (R8, R235, R237). -/
def State.emit (s : State) (es : List Event) : State := { s with out := s.out ++ es }

/-- The effect of a stage of the classifier: its new MotionState and the events it emitted. -/
def State.applyStage (s : State) (r : MotionState × List Event) : State := (s.setMot r.1).emit r.2

/-- The value of a configuration register, as a 64-bit word: signed registers sign-extended; an unassigned number
holds nothing (R36, R50). -/
def State.cfgRead (s : State) (r : BitVec 4) : Option (BitVec 64) :=
  match r.toNat with
  | 0 => some (s.cfg.pktMode.code.setWidth 64)
  | 1 => some ((BitVec.ofBool s.cfg.clicking).setWidth 64)
  | 2 => some ((BitVec.ofBool s.cfg.dragging).setWidth 64)
  | 3 => some ((BitVec.ofBool s.cfg.draglock).setWidth 64)
  | 4 => some ((BitVec.ofBool s.cfg.hscrollEn).setWidth 64)
  | 5 => some ((BitVec.ofBool s.cfg.vscrollEn).setWidth 64)
  | 6 => some (s.cfg.scrollAccelRaw.signExtend 64)
  | 7 => some (s.cfg.pointerAccelRaw.signExtend 64)
  | 8 => some s.cfg.maxTapTime
  | _ => none

/-! ### The framing discard

The one error class of the block (R232); it takes the place of taking an exception, and there is no return from it
(R230, R238, R239). -/

/-- The trace labels of a discard (R101, R232): no state holds them and no port shows them. -/
inductive DiscardReason where
  | discardAck
  | discardHdr
deriving DecidableEq, Repr

/-- `discard(reason)`: ends the operation with no state change at all (R8, R101, R232). -/
def discard (_reason : DiscardReason) (s : State) : Result := .next s

/-- The discard's reason of a byte that arrives while `count = 0`, if it is discarded (R101). -/
def discardReason (par : Params) (b : Byte) : Option DiscardReason :=
  match startClass par b with
  | .ack => some .discardAck
  | .badhdr => some .discardHdr
  | .ok => none

/-! ### The scheduled button-up -/

/-- The events of the button-up: the physical buttons of the last absolute packet, at the scheduled time (R212). -/
def buttonUpEvents (m : MotionState) : List Event := [.motion 0 0 m.lastButtons m.tapDeadline]

/-- `TIMER.EXPIRE` on a state that has a button-up scheduled (R212). -/
def State.expire (s : State) : State :=
  s.applyStage ({ s.mot with tapBtn := false, tapArmed := false }, buttonUpEvents s.mot)

/-- The button-up performed before a dispatch that finds it due (R108, R213). -/
def State.expireIfDue (s : State) (now : Clk) : State :=
  if buttonUpDue now s.mot then s.expire else s

/-! ### The stimulus script -/

/-- The framer is SEEKING: `count = 0` (R13). -/
def State.seeking (s : State) : Bool := s.count == 0

/-- A word put in front of the rest of the script. -/
def State.pushWord (s : State) (w : PortWord) : State := { s with input := w :: s.input }

/-- The first bytes of a packet already in the buffer, and `count` at their number. -/
def State.withBuffered (s : State) (bytes : List Byte) : State :=
  let put := bytes.foldl (fun (acc : Memory × Nat) b => (acc.1.write acc.2 b, acc.2 + 1)) (s.buf, 0)
  { s with buf := put.1, count := Fin.ofNat 6 put.2 }

/-- A table row's word placed so that the very next step runs it: a port word in front of the script; for a whole
packet, `p[0]` its lowest byte (DESIGN CHOICE, log entry 11), its bytes but the last in `buf`, `count` at their number,
`PKT_MODE` so that the last byte completes it, and that byte in front of the script, with 0 on `CLK_IN` (DESIGN CHOICE:
a table word gives no clock value; log entry 11). A 3-byte packet is left: no `FEED` dispatches one (R106; log entry 11). -/
def State.placeTableWord (s : State) (nbits w : Nat) : State :=
  match leBytes (nbits / 8) w with
  | [p0, p1, p2, p3] =>
    if nbits = 32 then
      (((s.withBuffered [p0, p1, p2]).setCfg { s.cfg with pktMode := .rel4 }).pushWord (byteWord p3 0))
    else s.pushWord (tablePortWord nbits w)
  | [p0, p1, p2, p3, p4, p5] =>
    if nbits = 48 then
      (((s.withBuffered [p0, p1, p2, p3, p4]).setCfg { s.cfg with pktMode := .abs6 }).pushWord (byteWord p5 0))
    else s.pushWord (tablePortWord nbits w)
  | _ => if nbits = 24 then s else s.pushWord (tablePortWord nbits w)

/-- The decoder applied where the machine is: the framer's own state says whether a byte has a start class. -/
def State.decodeWord (s : State) (w : PortWord) : Except DecodeError Instr := decode s.par s.seeking w

/-- A script loaded from outside, after what is already pending (R92; log entry 5). -/
def State.load (s : State) (script : List ScriptLine) : State := { s with input := s.input ++ scriptWords script }

end Sys2Proof.Machine
end

