-- ==== Sys2Proof/Machine/Classifier.lean ====
section
/-! DEFINITION. The stages of the Gesture/Motion Classifier (43_gesture R150) as functions from the sample's fields,
the configuration and MotionState to a new MotionState and the events emitted (R186), and their composition. -/

namespace Sys2Proof.Machine

/-- What a stage answers. -/
abbrev StageResult := MotionState × List Event

/-- Stage 2, `G.TFENTRY` (R158). -/
def stageTfEntry (cfg : ConfigRegs) (x : XCoord) (y : YCoord) (z : Byte) (m : MotionState) : MotionState :=
  if twoFingerEntry cfg z m then { m with twoFinger := true, refX := x, refY := y } else m

/-- Stage 4, `G.TFSCROLL` (R162). -/
def stageTfScroll (cfg : ConfigRegs) (x : XCoord) (y : YCoord) (now : Clk) (m : MotionState) : StageResult :=
  let sdx := sgn (coordDiff x m.refX)
  let sdy := sgn (coordDiff y m.refY)
  if gateOpen (satSucc m.cnt) then
    ({ m with cnt := 0, refX := x, refY := y }, [.scroll (scale cfg sdy) (scale cfg sdx) now.toNat])
  else ({ m with cnt := satSucc m.cnt }, [])

/-- The debounce counter outside two-finger mode (R163). -/
def debounce (willScroll : Bool) (m : MotionState) : MotionState :=
  { m with cnt := if willScroll then satSucc m.cnt else 0 }

/-- The reference of stage 5, re-anchored where R164 says so. -/
def anchored (x : XCoord) (y : YCoord) (m : MotionState) : MotionState :=
  if reanchors m then { m with refX := x, refY := y } else m

/-- Stage 5, `G.EDGESCROLL` (R164). -/
def stageEdgeScroll (cfg : ConfigRegs) (x : XCoord) (y : YCoord) (region : Region) (now : Clk) (m : MotionState) : StageResult :=
  let dx := coordDiff x (anchored x y m).refX
  let dy := coordDiff y (anchored x y m).refY
  ({ m with refX := x, refY := y, touchMode := .vScroll },
    [.scroll (if region = .v then scale cfg dy else 0) (if region = .h then scale cfg dx else 0) now.toNat])

/-- Stage 6, `G.MOVE` (R166, R167). -/
def stageMove (par : Params) (x : XCoord) (y : YCoord) (tap : Bool) (buttons : Buttons) (now : Clk) (m : MotionState) : StageResult :=
  let moves := tap && !warmingUp par m
  let mdx := if moves then coordDiff x m.prevX else 0
  let mdy := if moves then coordDiff y m.prevY else 0
  ({ m with touchMode := if tap then .move else m.touchMode }, [.motion mdx mdy (heldButtons m buttons) now.toNat])

/-- The click of a release: the synthetic button-down, and the button-up scheduled (R174). -/
def click (par : Params) (buttons : Buttons) (now : Clk) (m : MotionState) : StageResult :=
  ({ m with tapBtn := true, tapArmed := true, tapDeadline := now.toNat + par.tapUpDelay.toNat },
    [.motion 0 0 (buttons ||| Config.tapButton) now.toNat])

/-- The end of a touch (R176). -/
def endTouch (tap : Bool) (m : MotionState) : MotionState :=
  if tap then m else { m with touchMode := .noTouch, twoFinger := false }

/-- Stage 7, `G.TAPCLICK` (R170, R172, R174, R176). -/
def stageTapClick (par : Params) (cfg : ConfigRegs) (tap tapClick : Bool) (buttons : Buttons) (now : Clk) (m : MotionState) : StageResult :=
  if tapClick then
    ({ m with lastTapTime := if m.prevTapClick then m.lastTapTime else now, touchMode := .multiTouch }, [])
  else
    let r := if isClick cfg now m then click par buttons now m else (m, [])
    (endTouch tap r.1, r.2)

/-- Stage 8, `G.COMMIT` (R180). -/
def stageCommit (x : XCoord) (y : YCoord) (z : Byte) (region : Region) (tap tapClick : Bool) (buttons : Buttons)
    (m : MotionState) : MotionState :=
  { m with
    prevX := x
    prevY := y
    prevZ := z
    prevRegion := region
    prevTapClick := tapClick
    lastButtons := buttons
    warmCount := if tap then satSucc m.warmCount else 0 }

/-- Exactly one of the stages 4, 5 and 6, with the debounce counter before the choice of the last two (R161, R163). -/
def stagePath (par : Params) (cfg : ConfigRegs) (smp : Sample) (region : Region) (now : Clk) (m : MotionState) : StageResult :=
  let ws := willScrollFlag cfg smp.z region
  if m.twoFinger then stageTfScroll cfg smp.x smp.y now m
  else if edgeSelected ws (debounce ws m) then stageEdgeScroll cfg smp.x smp.y region now (debounce ws m)
  else stageMove par smp.x smp.y smp.tap smp.buttons now (debounce ws m)

/-- `CLASSIFY`: the eight stages in order (R150). -/
def classify (par : Params) (cfg : ConfigRegs) (smp : Sample) (now : Clk) (m : MotionState) : StageResult :=
  let region := regionOf m.prevRegion smp.x smp.y
  let path := stagePath par cfg smp region now (stageTfEntry cfg smp.x smp.y smp.z m)
  let tapped := stageTapClick par cfg smp.tap smp.tapClick smp.buttons now path.1
  (stageCommit smp.x smp.y smp.z region smp.tap smp.tapClick smp.buttons tapped.1, path.2 ++ tapped.2)

/-- `DISPATCH_ABS(p, now)` (R105): decode, then classify. -/
def State.dispatchAbs (s : State) (p : Pkt6) (now : Clk) : State :=
  s.applyStage (classify s.par s.cfg (decodeAbs p) now s.mot)

/-- `DISPATCH_REL(p, 4, now)` (R104): no classifier state is read or written (R139). -/
def State.dispatchRel4 (s : State) (p : Pkt4) (now : Clk) : State := s.emit (rel4Events p now)

end Sys2Proof.Machine
end

