-- ==== Sys2Proof/Machine/Framer.lean ====
section
/-! DEFINITION. The Packet Assembler (40_framer): `FEED` and the start-byte classes. -/

namespace Sys2Proof.Machine

/-- The append of an accepted byte, without the length test: `buf[count] <- b` (R102). -/
def State.append (s : State) (b : Byte) : State := s.bufWrite s.count.val b

/-- An accepted byte: the append, the length test on the new count, and the dispatch a complete packet causes, with a
due button-up before it and `count` back at 0 after it (R102, R103, R108). -/
def State.accept (s : State) (b : Byte) (t : Clk) : State :=
  let s1 := s.append b
  let n := s.count.val + 1
  if n = Config.lenRel ∧ s.cfg.pktMode = .rel4 then
    ((s1.expireIfDue t).dispatchRel4 s1.buf.pkt4 t).setCount 0
  else if n = Config.lenAbs then
    ((s1.expireIfDue t).dispatchAbs s1.buf.pkt6 t).setCount 0
  else s1.setCount (Fin.ofNat 6 n)

/-- `FEED b @t` (R100). -/
def execFeed (b : Byte) (t : Clk) (s : State) : Result :=
  if s.seeking then
    match discardReason s.par b with
    | some reason => discard reason s
    | none => .next (s.accept b t)
  else .next (s.accept b t)

/-- `START.ACK`: discarded, no state changes (R101). -/
def execStartAck (_b : Byte) (s : State) : Result := discard .discardAck s

/-- `START.BADHDR`: discarded, no state changes (R101). -/
def execStartBadhdr (_b : Byte) (s : State) : Result := discard .discardHdr s

/-- `START.OK`: the byte is stored in `buf[0]` and `count` becomes 1 (R71, R102). The class exists only while `count`
is 0 and for a byte of it; elsewhere the operation is not selected and does nothing (log entry 8). -/
def execStartOk (b : Byte) (s : State) : Result :=
  if s.seeking && startClass s.par b == .ok then .next ((s.append b).setCount 1) else .next s

end Sys2Proof.Machine
end

