-- ==== Sys2Proof/Machine/Gesture.lean ====
section
/-! DEFINITION. The internal operations of the classifier, each on its own (43_gesture). A stage's selection is the
dispatch's (R161); the operation is the stage's body. -/

namespace Sys2Proof.Machine

/-- `G.REGION` (R156): its result is the region; it writes no register. -/
def execGRegion (x : XCoord) (y : YCoord) (s : State) : Result :=
  .next (s.setRes { s.res with region := regionOf s.mot.prevRegion x y })

/-- `G.TFENTRY` (R158). -/
def execGTfentry (x : XCoord) (y : YCoord) (z : Byte) (s : State) : Result :=
  .next (s.setMot (stageTfEntry s.cfg x y z s.mot))

/-- `G.WILLSCROLL` (R160): its result is `willScroll`; it writes no register. -/
def execGWillscroll (z : Byte) (region : Region) (s : State) : Result :=
  .next (s.setRes { s.res with willScroll := willScrollFlag s.cfg z region })

/-- `G.TFSCROLL` (R162). -/
def execGTfscroll (x : XCoord) (y : YCoord) (now : Clk) (s : State) : Result :=
  .next (s.applyStage (stageTfScroll s.cfg x y now s.mot))

/-- `G.EDGESCROLL` (R164). -/
def execGEdgescroll (x : XCoord) (y : YCoord) (region : Region) (now : Clk) (s : State) : Result :=
  .next (s.applyStage (stageEdgeScroll s.cfg x y region now s.mot))

/-- `G.MOVE` (R166). -/
def execGMove (x : XCoord) (y : YCoord) (tap : Bool) (buttons : Buttons) (now : Clk) (s : State) : Result :=
  .next (s.applyStage (stageMove s.par x y tap buttons now s.mot))

/-- `G.TAPCLICK` (R170). -/
def execGTapclick (tap tapClick : Bool) (buttons : Buttons) (now : Clk) (s : State) : Result :=
  .next (s.applyStage (stageTapClick s.par s.cfg tap tapClick buttons now s.mot))

/-- `G.COMMIT` (R180). -/
def execGCommit (x : XCoord) (y : YCoord) (z : Byte) (region : Region) (tap tapClick : Bool) (buttons : Buttons)
    (s : State) : Result :=
  .next (s.setMot (stageCommit x y z region tap tapClick buttons s.mot))

end Sys2Proof.Machine
end

