-- ==== Sys2Proof/Machine/Packets.lean ====
section
/-! DEFINITION. The packet formats (the dispatches of 40_framer R104, R105 and the decoder contract of 42 R137) and the
decoders on their own (41_abs_decoder, 42_rel_decoder). -/

namespace Sys2Proof.Machine

/-- `PKT.REL4`: `DISPATCH_REL` (R104). -/
def execPktRel4 (p : Pkt4) (now : Clk) (s : State) : Result := .next (s.dispatchRel4 p now)

/-- `PKT.ABS6`: `DISPATCH_ABS` (R105). -/
def execPktAbs6 (p : Pkt6) (now : Clk) (s : State) : Result := .next (s.dispatchAbs p now)

/-- `PKT.REL3`: reached through the decoder's contract only (R137, conflict C5). -/
def execPktRel3 (p : Pkt3) (now : Clk) (s : State) : Result := .next (s.emit (rel3Events p now))

/-- `DEC.ABS`: its result is the AbsoluteSample; it writes no register (R120, R121). -/
def execDecAbs (p : Pkt6) (s : State) : Result := .next (s.setRes { s.res with sample := decodeAbs p })

/-- `DEC.REL3` (R137). -/
def execDecRel3 (p : Pkt3) (now : Clk) (s : State) : Result := .next (s.emit (rel3Events p now))

/-- `DEC.REL4` (R138). -/
def execDecRel4 (p : Pkt4) (now : Clk) (s : State) : Result := .next (s.emit (rel4Events p now))

end Sys2Proof.Machine
end

