-- ==== Sys2Proof/Machine/System.lean ====
section
/-! DEFINITION. Reset, the mode and configuration writes, the timer agent and the output events (70_reset R260,
44_config_timer, 30_encoding R80). -/

namespace Sys2Proof.Machine

/-- `RESET` (R260): every register at its reset value; `buf` keeps its bytes, nothing is emitted. The parameters, the
script and the events that have left are not the block's registers and stay (log entry 14). -/
def execReset (s : State) : Result :=
  .next { s with count := 0, mot := MotionState.reset, cfg := ConfigRegs.reset, res := Results.reset }

/-- `MODEW m`: writes `PKT_MODE` only (R204). -/
def execModew (m : PktMode) (s : State) : Result := .next (s.setCfg { s.cfg with pktMode := m })

/-- `CFGW 1, v` (R202, R38). -/
def execCfgwClicking (v : BitVec 64) (s : State) : Result := .next (s.setCfg { s.cfg with clicking := cfgBool v })

/-- `CFGW 2, v` (R202, R39). -/
def execCfgwDragging (v : BitVec 64) (s : State) : Result := .next (s.setCfg { s.cfg with dragging := cfgBool v })

/-- `CFGW 3, v` (R202, R40). -/
def execCfgwDraglock (v : BitVec 64) (s : State) : Result := .next (s.setCfg { s.cfg with draglock := cfgBool v })

/-- `CFGW 4, v` (R202, R41). -/
def execCfgwHscrollEn (v : BitVec 64) (s : State) : Result := .next (s.setCfg { s.cfg with hscrollEn := cfgBool v })

/-- `CFGW 5, v` (R202, R42). -/
def execCfgwVscrollEn (v : BitVec 64) (s : State) : Result := .next (s.setCfg { s.cfg with vscrollEn := cfgBool v })

/-- `CFGW 6, v` (R202, R43). -/
def execCfgwScrollAccelRaw (v : BitVec 64) (s : State) : Result :=
  .next (s.setCfg { s.cfg with scrollAccelRaw := cfgS32 v })

/-- `CFGW 7, v` (R202, R44). -/
def execCfgwPointerAccelRaw (v : BitVec 64) (s : State) : Result :=
  .next (s.setCfg { s.cfg with pointerAccelRaw := cfgS32 v })

/-- `CFGW 8, v` (R202, R45). -/
def execCfgwMaxTapTime (v : BitVec 64) (s : State) : Result := .next (s.setCfg { s.cfg with maxTapTime := v })

/-- `CFGW r, v` of a number with no register: nothing in the block changes (R202, 93 U13). -/
def execCfgwIgnored (_r : BitVec 4) (_v : BitVec 64) (s : State) : Result := .next s

/-- `TIMER.EXPIRE` (R212): enabled only while a button-up is scheduled; elsewhere it does not take place (log entry
8). -/
def execTimerExpire (s : State) : Result := if s.mot.tapArmed then .next s.expire else .next s

/-- `EV.MOTION`: one event on `EV_MOTION`, its fields the port's words (R80). -/
def execEvMotion (dx dy : BitVec 32) (buttons : Buttons) (ts : Clk) (s : State) : Result :=
  .next (s.emit [.motion dx.toInt dy.toInt buttons ts.toNat])

/-- `EV.SCROLL`: one event on `EV_SCROLL`, its fields the port's words (R80). -/
def execEvScroll (v h : BitVec 32) (ts : Clk) (s : State) : Result :=
  .next (s.emit [.scroll v.toInt h.toInt ts.toNat])

end Sys2Proof.Machine
end

