-- ==== Sys2Proof/Machine/Dispatch.lean ====
section
/-! DEFINITION. One arm per operation of the opcode table, each calling its meaning. -/

namespace Sys2Proof.Machine

def exec (i : Instr) (s : State) : Host.Outcome State Fault Refusal :=
  match i with
  | .reset => Sys2Proof.Machine.execReset s
  | .feed b t => Sys2Proof.Machine.execFeed b t s
  | .startAck b => Sys2Proof.Machine.execStartAck b s
  | .startBadhdr b => Sys2Proof.Machine.execStartBadhdr b s
  | .startOk b => Sys2Proof.Machine.execStartOk b s
  | .pktRel4 p now => Sys2Proof.Machine.execPktRel4 p now s
  | .pktAbs6 p now => Sys2Proof.Machine.execPktAbs6 p now s
  | .pktRel3 p now => Sys2Proof.Machine.execPktRel3 p now s
  | .decAbs p => Sys2Proof.Machine.execDecAbs p s
  | .decRel3 p now => Sys2Proof.Machine.execDecRel3 p now s
  | .decRel4 p now => Sys2Proof.Machine.execDecRel4 p now s
  | .gRegion x y => Sys2Proof.Machine.execGRegion x y s
  | .gTfentry x y z => Sys2Proof.Machine.execGTfentry x y z s
  | .gWillscroll z region => Sys2Proof.Machine.execGWillscroll z region s
  | .gTfscroll x y now => Sys2Proof.Machine.execGTfscroll x y now s
  | .gEdgescroll x y region now => Sys2Proof.Machine.execGEdgescroll x y region now s
  | .gMove x y tap buttons now => Sys2Proof.Machine.execGMove x y tap buttons now s
  | .gTapclick tap tapClick buttons now => Sys2Proof.Machine.execGTapclick tap tapClick buttons now s
  | .gCommit x y z region tap tapClick buttons => Sys2Proof.Machine.execGCommit x y z region tap tapClick buttons s
  | .modew m => Sys2Proof.Machine.execModew m s
  | .cfgwClicking v => Sys2Proof.Machine.execCfgwClicking v s
  | .cfgwDragging v => Sys2Proof.Machine.execCfgwDragging v s
  | .cfgwDraglock v => Sys2Proof.Machine.execCfgwDraglock v s
  | .cfgwHscrollEn v => Sys2Proof.Machine.execCfgwHscrollEn v s
  | .cfgwVscrollEn v => Sys2Proof.Machine.execCfgwVscrollEn v s
  | .cfgwScrollAccelRaw v => Sys2Proof.Machine.execCfgwScrollAccelRaw v s
  | .cfgwPointerAccelRaw v => Sys2Proof.Machine.execCfgwPointerAccelRaw v s
  | .cfgwMaxTapTime v => Sys2Proof.Machine.execCfgwMaxTapTime v s
  | .cfgwIgnored r v => Sys2Proof.Machine.execCfgwIgnored r v s
  | .timerExpire => Sys2Proof.Machine.execTimerExpire s
  | .evMotion dx dy buttons ts => Sys2Proof.Machine.execEvMotion dx dy buttons ts s
  | .evScroll v h ts => Sys2Proof.Machine.execEvScroll v h ts s

end Sys2Proof.Machine
end

