-- ==== Sys2Proof/Machine/Step.lean ====
section
/-! DEFINITION. One step of the block: the next operation of the script, whole (20_memory R53, R56), or, when none is
pending, the timer acting by itself (44_config_timer R213 clause 3), or nothing (70_reset R262). -/

namespace Sys2Proof.Machine

/-- One step (log entries 5 and 12). -/
def step (s : State) : Host.Outcome State Fault Refusal :=
  match s.input with
  | [] => exec .timerExpire s
  | w :: rest =>
    match s.decodeWord w with
    | .ok i => exec i { s with input := rest }
    | .error reason => .refused (.undecodable reason)

/-- The state with a table row's bits stored where `step` fetches its next operation (log entry 11). -/
def State.withFetchWord (s : State) (nbits w : Nat) : State := s.placeTableWord nbits w

end Sys2Proof.Machine
end

