-- ==== Sys2Proof/Safety.lean ====
section
/-! DEFINITION. What counts as a safe run, in the terms claims use: the invariants of 10_state R48, the ranges of
43_gesture R153, the end of a run (44_config_timer R214), and the contract on the callers (60_exceptions R240, 70_reset
R270, R278), which the block does not check. -/

namespace Sys2Proof

/-- The two contexts of R240. -/
inductive Context where
  | packetDelivery
  | hostConfiguration
deriving DecidableEq, Repr

/-- The context that may issue the operation on a port (R240). A port word has one; the block's own agent and the
operations inside a dispatch belong to neither caller. -/
def Port.context : Port → Context
  | .byteIn => .packetDelivery
  | .rst => .hostConfiguration
  | .mode => .hostConfiguration
  | .cfg => .hostConfiguration

end Sys2Proof

namespace Sys2Proof.Machine

/-- A signed value fits a 32-bit event field (R80). -/
def fitsField (n : Int) : Prop := -2147483648 ≤ n ∧ n ≤ 2147483647

/-- Every signed field of an event fits its 32 bits (R80, R153). -/
def Event.fits : Event → Prop
  | .motion dx dy _ _ => fitsField dx ∧ fitsField dy
  | .scroll v h _ => fitsField v ∧ fitsField h

/-- Every byte of the packet in progress has been written (R11, R53). -/
def State.buffered (s : State) : Prop := ∀ a, a < s.count.val → (s.buf.get? a).isSome = true

/-- The invariants that hold between any two operations: the packet buffer is canonical and holds the packet in
progress (R11, R53), `tapBtn = tapArmed` (R48), and every event that has left fits its fields (R153). The other ranges
of R48 are the types of the registers. -/
def State.Inv (s : State) : Prop :=
  s.buf.wf = true ∧ s.buffered ∧ s.mot.tapBtn = s.mot.tapArmed ∧ ∀ e ∈ s.out, e.fits

/-- A run is over: no operation is pending and no button-up is owed (R214). -/
def State.runOver (s : State) : Bool := s.input.isEmpty && !s.mot.tapArmed

/-- The mode-switch contract of R270 (c): a mode write comes only while no packet is in progress. -/
def State.modeSwitchAllowed (s : State) (w : PortWord) : Bool := w.port != .mode || s.seeking

/-- The clock contract of R278: the values sampled on `CLK_IN`, in order, do not decrease. -/
def clockMonotone (sampled : List Clk) : Bool := decide (sampled.Pairwise fun a b => a ≤ b)

/-- The deadline contract of R278: the deadline of a click at `now` fits TIME. -/
def Params.deadlineFits (par : Params) (now : Clk) : Bool := decide (now.toNat + par.tapUpDelay.toNat < 18446744073709551616)

/-- The parts of the registers that nothing observes: `DRAGGING`, `DRAGLOCK` and `POINTER_ACCEL_RAW` (R39, R40, R44)
erased. -/
def State.eraseUnused (s : State) : State :=
  s.setCfg { s.cfg with dragging := false, draglock := false, pointerAccelRaw := 0 }

/-- Edge scrolling marks a pressure: outside two-finger mode the mode `V_SCROLL` never stands with a zero `prevZ`
(R164's own remark on its re-anchoring clause). -/
def State.scrollPressure (s : State) : Prop :=
  s.mot.touchMode = .vScroll → s.mot.twoFinger = false → s.mot.prevZ ≠ 0

/-- Two-finger mode as stage 2 leaves it (R158). -/
def State.twoFingerAfterEntry (s : State) (smp : Sample) : Prop :=
  s.mot.twoFinger = true ∨ (100 ≤ smp.z.toNat ∧ (s.cfg.hscrollEn = true ∨ s.cfg.vscrollEn = true))

/-- The region of a sample (R156), with the numbers of R7. -/
def State.regionIs (s : State) (smp : Sample) (r : Region) : Prop :=
  (900 < smp.x.toNat ∧ 650 < smp.y.toNat ∧ r = (if s.mot.prevRegion = .v then .v else .h)) ∨
  (900 < smp.x.toNat ∧ smp.y.toNat ≤ 650 ∧ r = .v) ∨
  (smp.x.toNat ≤ 900 ∧ 650 < smp.y.toNat ∧ r = .h) ∨
  (smp.x.toNat ≤ 900 ∧ smp.y.toNat ≤ 650 ∧ r = .none)

/-- `willScroll` of a sample (R160), with the numbers of R7. -/
def State.willScrollOn (s : State) (smp : Sample) : Prop :=
  20 < smp.z.toNat ∧ smp.z.toNat < 69 ∧
    ((s.regionIs smp .v ∧ s.cfg.vscrollEn = true) ∨ (s.regionIs smp .h ∧ s.cfg.hscrollEn = true))

/-- The edge-scroll condition of a sample outside two-finger mode, on the counter as R163 updates it (R161). -/
def State.edgeScrollOn (s : State) (smp : Sample) : Prop :=
  s.willScrollOn smp ∧ (21 < s.mot.cnt.toNat + 1 ∨ s.mot.touchMode = .vScroll)

/-- The timestamp of an event. -/
def Event.ts : Event → Time
  | .motion _ _ _ ts => ts
  | .scroll _ _ ts => ts

/-- Whether an event left on `EV_SCROLL`. -/
def Event.isScroll : Event → Bool
  | .motion _ _ _ _ => false
  | .scroll _ _ _ => true

/-- The events that have left have non-decreasing timestamps, none past `τ`, and a button-up still owed is not due
before `τ` (R216). -/
def State.timeOrdered (s : State) (τ : Time) : Prop :=
  (s.out.Pairwise fun a b => a.ts ≤ b.ts) ∧ (∀ e ∈ s.out, e.ts ≤ τ) ∧ (s.mot.tapArmed = true → τ ≤ s.mot.tapDeadline)

/-- The next byte completes a packet, so that its `FEED` samples the clock (R103, R108). -/
def State.byteCompletes (s : State) : Prop :=
  s.count.val = 5 ∨ (s.count.val = 3 ∧ s.cfg.pktMode = .rel4)

/-- `k` steps, stopping at the first that gives no next state. -/
def stepTimes : Nat → State → Result
  | 0, s => .next s
  | k + 1, s =>
    match step s with
    | .next t => stepTimes k t
    | .fault r => .fault r
    | .refused r => .refused r

/-- Bytes fed one at a time (R100). -/
def feedAll : List (Byte × Clk) → State → Result
  | [], s => .next s
  | b :: bs, s =>
    match exec (.feed b.1 b.2) s with
    | .next t => feedAll bs t
    | .fault r => .fault r
    | .refused r => .refused r

/-- Those of these bytes that are not discarded, in packets of `len` bytes, the first arriving at position `pos` of its
packet: only a byte at position 0 can be discarded (R71, R107, R111). -/
def acceptedBytes (par : Params) (len : Nat) : Nat → List (Byte × Clk) → List (Byte × Clk)
  | _, [] => []
  | pos, b :: bs =>
    if pos = 0 ∧ startClass par b.1 ≠ .ok then acceptedBytes par len pos bs
    else b :: acceptedBytes par len ((pos + 1) % len) bs

/-- Accepted bytes cut into relative packets, each with the clock value of its last byte; the bytes of an incomplete
packet are left over (R103, R104, R108). -/
def relPackets : List (Byte × Clk) → List (Instr × Clk)
  | b0 :: b1 :: b2 :: b3 :: bs => (.pktRel4 ⟨b0.1, b1.1, b2.1, b3.1⟩ b3.2, b3.2) :: relPackets bs
  | _ => []

/-- Accepted bytes cut into absolute packets, each with the clock value of its last byte; the bytes of an incomplete
packet are left over (R103, R105, R108). -/
def absPackets : List (Byte × Clk) → List (Instr × Clk)
  | b0 :: b1 :: b2 :: b3 :: b4 :: b5 :: bs =>
    (.pktAbs6 ⟨b0.1, b1.1, b2.1, b3.1, b4.1, b5.1⟩ b5.2, b5.2) :: absPackets bs
  | _ => []

/-- Packets dispatched one after the other, each at its clock value, with a button-up that is due before it (R108). -/
def dispatchAll : List (Instr × Clk) → State → Result
  | [], s => .next s
  | p :: ps, s =>
    match (if s.mot.tapArmed = true ∧ s.mot.tapDeadline ≤ p.2.toNat then exec .timerExpire s else .next s) with
    | .next s1 =>
      match exec p.1 s1 with
      | .next t => dispatchAll ps t
      | .fault r => .fault r
      | .refused r => .refused r
    | .fault r => .fault r
    | .refused r => .refused r

/-- A packet's last event is a click's: the packet releases the tap-click flag in under the tap time, with tap-to-click
enabled (R174). -/
def State.clickReleased (s : State) (smp : Sample) (now : Clk) : Prop :=
  smp.tapClick = false ∧ s.mot.prevTapClick = true ∧ s.cfg.clicking = true ∧
    (now.toNat : Int) - (s.mot.lastTapTime.toNat : Int) < (s.cfg.maxTapTime.toNat : Int)

/-- Absolute packets dispatched one after the other (R105). -/
def packetAll : List (Pkt6 × Clk) → State → Result
  | [], s => .next s
  | p :: ps, s =>
    match exec (.pktAbs6 p.1 p.2) s with
    | .next t => packetAll ps t
    | .fault r => .fault r
    | .refused r => .refused r

end Sys2Proof.Machine
end

