-- ==== Sys2Proof/Certificates/Slice0/Obligations.lean ====
section
/-! DEFINITION. The statements for the provers, from the numbered rules of the spec. -/

open Sys2Proof Sys2Proof.Machine

/-! ### The step -/

/-- When the word at the head of the script decodes to an operation, the step is that operation, whole, on the state
without the word; when it does not, the step refuses by name. The script in `State.input` and the layout of a word are
the model's choice (log entries 5, 10, 23). R53. -/
def Obligations.StepRunsTheDecodedOperation : Prop :=
  ∀ (s : State) (w : PortWord) (rest : List PortWord), s.input = w :: rest →
    (∀ i, decode s.par (s.count == 0) w = .ok i → step s = exec i { s with input := rest }) ∧
    (∀ e, decode s.par (s.count == 0) w = .error e → step s = .refused (.undecodable e))

/-- With no operation pending, the button-up takes place by itself if it is owed, and otherwise nothing runs (R213
clause 3, R262; that the clause is tried when the script is empty is log entry 12, and that `TIMER.EXPIRE` does nothing
where none is scheduled is log entry 8). -/
def Obligations.StepWithNothingPendingIsTheTimer : Prop :=
  ∀ s : State, s.input = [] →
    (s.mot.tapArmed = true →
      step s = .next { s with
        mot := { s.mot with tapBtn := false, tapArmed := false }
        out := s.out ++ [.motion 0 0 s.mot.lastButtons s.mot.tapDeadline] }) ∧
    (s.mot.tapArmed = false → step s = .next s ∧ exec .timerExpire s = .next s)

/-- A byte on `BYTE_IN` is one whole `FEED`, whichever class the decoder names for it while the framer is SEEKING
(R53, R100; log entry 10). -/
def Obligations.ByteStepIsAWholeFeed : Prop :=
  ∀ (s : State) (b : Byte) (t : Clk) (rest : List PortWord), s.input = byteWord b t :: rest →
    step s = exec (.feed b t) { s with input := rest }

/-- Each script line that is one operation makes one step that is this operation, wherever it stands in the script
(R92; log entries 5 and 10). A `FEED` without `@t` runs with a clock value that nothing is known of (log entry 26). -/
def Obligations.ScriptLineStepsRunTheirOperation : Prop :=
  ∀ (s : State) (n : Nat) (rest : List PortWord),
    (s.input = opWords n (ScriptLine.op .reset).expand ++ rest → step s = exec .reset { s with input := rest }) ∧
    (∀ m, s.input = opWords n (ScriptLine.op (.modew m)).expand ++ rest →
      step s = exec (.modew m) { s with input := rest }) ∧
    (∀ r v, s.input = opWords n (ScriptLine.op (.cfgw r v)).expand ++ rest →
      step s = exec (cfgInstr r v) { s with input := rest }) ∧
    (∀ b t, s.input = opWords n (ScriptLine.op (.feed b (some t))).expand ++ rest →
      step s = exec (.feed b t) { s with input := rest }) ∧
    (∀ b, s.input = opWords n (ScriptLine.op (.feed b none)).expand ++ rest →
      step s = exec (.feed b (Config.freeClk n)) { s with input := rest })

/-- A line `ABS` in `ABS6` mode, and a line `REL4` in `REL4` mode, that begins while `count = 0` with a byte in class
`START.OK` runs in 6 or 4 steps to the dispatch of the packet of its bytes at its own `@t`, after a due button-up: the
clock values it does not write are sampled by nothing. An omitted `b0` is 0x08 (R92, R93; the script and its words are
the model's, log entries 5, 10 and 26). -/
def Obligations.PseudoOperationLineMakesOnePacket : Prop :=
  (∀ (s : State) (n : Nat) (rest : List PortWord) (x : XCoord) (y : YCoord) (z : Byte) (left right tap tapClick : Bool)
    (b0 : Option Byte) (t : Clk),
    let line := ScriptLine.abs x y z left right tap tapClick b0 t
    let p := asmAbs x y z left right tap tapClick b0
    line.wf s.par = true → s.count = 0 → s.cfg.pktMode = .abs6 → s.input = opWords n line.expand ++ rest →
    ∃ m u, (List.range 6).map m.get? = [p.p0, p.p1, p.p2, p.p3, p.p4, p.p5].map some ∧
      (∀ a, 6 ≤ a → m.get? a = s.buf.get? a) ∧ p.p0 = (match b0 with | some b => b | none => 0x08) ∧
      dispatchAll [(.pktAbs6 p t, t)] { s with buf := m, input := rest } = .next u ∧ stepTimes 6 s = .next u) ∧
  (∀ (s : State) (n : Nat) (rest : List PortWord) (dxr dyr : BitVec 9) (btn : BitVec 3) (w : BitVec 4) (t : Clk),
    let p := asmRel4 dxr dyr btn w
    startClass s.par p.p0 = .ok → s.count = 0 → s.cfg.pktMode = .rel4 →
    s.input = opWords n (ScriptLine.rel4 dxr dyr btn w t).expand ++ rest →
    ∃ m u, (List.range 4).map m.get? = [p.p0, p.p1, p.p2, p.p3].map some ∧ (∀ a, 4 ≤ a → m.get? a = s.buf.get? a) ∧
      dispatchAll [(.pktRel4 p t, t)] { s with buf := m, input := rest } = .next u ∧ stepTimes 4 s = .next u)

/-- "A model gives the block no fault outcome: every operation on every state has a next state" (R233). -/
def Obligations.EveryOperationHasANextState : Prop :=
  ∀ (i : Instr) (s : State), ∃ t, exec i s = .next t

/-- A step consumes at most the head of the script, never changes the parameters, and only appends events (R7, R235;
the fields are the model's own, log entries 1, 5, 6). -/
def Obligations.StepOnlyAppendsEventsAndKeepsParameters : Prop :=
  ∀ s t : State, step s = .next t → t.par = s.par ∧ t.input = s.input.tail ∧ ∃ es, t.out = s.out ++ es

/-! ### Reset -/

/-- After `RESET` every register has the value of the table of R47, whatever it was; `buf` keeps its bytes, nothing is
emitted (R260, R47). -/
def Obligations.ResetGivesTheTableOfResetValues : Prop :=
  ∀ s : State, ∃ t, exec .reset s = .next t ∧
    t.count = 0 ∧
    t.mot.prevX = 0 ∧ t.mot.prevY = 0 ∧ t.mot.prevZ = 0 ∧ t.mot.refX = 0 ∧ t.mot.refY = 0 ∧
    t.mot.touchMode = .noTouch ∧ t.mot.cnt = 0 ∧ t.mot.lastTapTime = 0 ∧ t.mot.twoFinger = false ∧
    t.mot.prevRegion = .none ∧ t.mot.prevTapClick = false ∧ t.mot.warmCount = 0 ∧ t.mot.tapBtn = false ∧
    t.mot.tapArmed = false ∧ t.mot.tapDeadline = 0 ∧ t.mot.lastButtons = 0 ∧
    t.cfg.pktMode = .rel4 ∧ t.cfg.clicking = true ∧ t.cfg.dragging = false ∧ t.cfg.draglock = false ∧
    t.cfg.hscrollEn = true ∧ t.cfg.vscrollEn = true ∧ t.cfg.scrollAccelRaw = 737280 ∧ t.cfg.pointerAccelRaw = 0 ∧
    t.cfg.maxTapTime = 200000000 ∧
    t.buf = s.buf ∧ t.out = s.out

/-- `RESET` in any state gives the same registers: what it leaves is what the machine has right after reset (R260); that the parameters, the script and the events that have left are no
registers and stay is the model's choice (log entry 14). -/
def Obligations.ResetForgetsEverythingButTheBuffer : Prop :=
  ∀ s : State, exec .reset s =
    .next { State.reset with buf := s.buf, par := s.par, input := s.input, out := s.out }

/-! ### The framer -/

/-- A byte that arrives while `count = 0` and is the acknowledgment code, or fails the header check, changes no state
at all, and its trace label tells the two apart (R101). -/
def Obligations.DiscardedByteChangesNothing : Prop :=
  ∀ (s : State) (b : Byte) (t : Clk), s.count = 0 → (b = s.par.ackCode ∨ b &&& s.par.hdrMask ≠ s.par.hdrValue) →
    exec (.feed b t) s = .next s ∧ exec (.startAck b) s = .next s ∧ exec (.startBadhdr b) s = .next s ∧
    discardReason s.par b = some (if b = s.par.ackCode then .discardAck else .discardHdr)

/-- A byte in class `START.OK` that arrives while `count = 0` is stored in `buf[0]`, and `count` becomes 1 (R71, R102).
Where the class does not exist the operation does nothing: the model's reading (log entry 8). -/
def Obligations.StartOkStoresTheFirstByte : Prop :=
  ∀ (s : State) (b : Byte),
    (s.count = 0 → b ≠ s.par.ackCode → b &&& s.par.hdrMask = s.par.hdrValue →
      exec (.startOk b) s = .next { s with buf := s.buf.write 0 b, count := 1 } ∧
      (s.buf.write 0 b).get? 0 = some b ∧ ∀ a, a ≠ 0 → (s.buf.write 0 b).get? a = s.buf.get? a) ∧
    (s.count ≠ 0 ∨ b = s.par.ackCode ∨ b &&& s.par.hdrMask ≠ s.par.hdrValue → exec (.startOk b) s = .next s)

/-- While `count = 0` a `FEED` is the operation of the byte's start class (R71, R101, R102). -/
def Obligations.FeedWhileSeekingIsTheStartClass : Prop :=
  ∀ (s : State) (b : Byte) (t : Clk), s.count = 0 →
    (b = s.par.ackCode → exec (.feed b t) s = exec (.startAck b) s) ∧
    (b ≠ s.par.ackCode → b &&& s.par.hdrMask ≠ s.par.hdrValue → exec (.feed b t) s = exec (.startBadhdr b) s) ∧
    (b ≠ s.par.ackCode → b &&& s.par.hdrMask = s.par.hdrValue → exec (.feed b t) s = exec (.startOk b) s)

/-- An accepted byte that does not complete a packet is stored at `count` and `count` advances by one; nothing else
changes, the clock is not sampled and no event leaves (R102, R103, R107, R108). -/
def Obligations.AcceptedByteIsStoredAtCount : Prop :=
  ∀ (s : State) (b : Byte) (t : Clk),
    (s.count = 0 → b ≠ s.par.ackCode ∧ b &&& s.par.hdrMask = s.par.hdrValue) →
    s.count.val ≠ 5 → ¬(s.count.val = 3 ∧ s.cfg.pktMode = .rel4) →
    ∃ u, exec (.feed b t) s = .next u ∧ u.count.val = s.count.val + 1 ∧
      u.buf.get? s.count.val = some b ∧ (∀ a, a ≠ s.count.val → u.buf.get? a = s.buf.get? a) ∧
      u = { s with buf := u.buf, count := u.count }

/-- The fourth byte in `REL4` mode completes a `PKT.REL4` of `buf[0..2]` and the byte: a due button-up, then the
dispatch, then `count` is 0 (R103, R104, R108). -/
def Obligations.FourthByteDispatchesTheRelativePacket : Prop :=
  ∀ (s : State) (b : Byte) (t : Clk), s.count.val = 3 → s.cfg.pktMode = .rel4 →
    ∃ m s1 s2, m.get? 3 = some b ∧ (∀ a, a ≠ 3 → m.get? a = s.buf.get? a) ∧
      (s.mot.tapArmed = true ∧ s.mot.tapDeadline ≤ t.toNat → exec .timerExpire { s with buf := m } = .next s1) ∧
      (¬(s.mot.tapArmed = true ∧ s.mot.tapDeadline ≤ t.toNat) → s1 = { s with buf := m }) ∧
      exec (.pktRel4 ⟨s.buf.read 0, s.buf.read 1, s.buf.read 2, b⟩ t) s1 = .next s2 ∧
      exec (.feed b t) s = .next { s2 with count := 0 }

/-- The sixth byte, in either mode, completes a `PKT.ABS6` of `buf[0..4]` and the byte: a due button-up, then the
dispatch, then `count` is 0 (R103, R105, R108). -/
def Obligations.SixthByteDispatchesTheAbsolutePacket : Prop :=
  ∀ (s : State) (b : Byte) (t : Clk), s.count.val = 5 →
    ∃ m s1 s2, m.get? 5 = some b ∧ (∀ a, a ≠ 5 → m.get? a = s.buf.get? a) ∧
      (s.mot.tapArmed = true ∧ s.mot.tapDeadline ≤ t.toNat → exec .timerExpire { s with buf := m } = .next s1) ∧
      (¬(s.mot.tapArmed = true ∧ s.mot.tapDeadline ≤ t.toNat) → s1 = { s with buf := m }) ∧
      exec (.pktAbs6 ⟨s.buf.read 0, s.buf.read 1, s.buf.read 2, s.buf.read 3, s.buf.read 4, b⟩ t) s1 = .next s2 ∧
      exec (.feed b t) s = .next { s2 with count := 0 }

/-- The next count of the assembler's transition table, for every count, byte and mode (R109). -/
def Obligations.FramerCountFollowsTheTransitionTable : Prop :=
  ∀ (s : State) (b : Byte) (t : Clk), ∃ u, exec (.feed b t) s = .next u ∧
    (s.count.val = 0 → b = s.par.ackCode ∨ b &&& s.par.hdrMask ≠ s.par.hdrValue → u.count.val = 0) ∧
    (s.count.val = 0 → b ≠ s.par.ackCode → b &&& s.par.hdrMask = s.par.hdrValue → u.count.val = 1) ∧
    (s.count.val = 1 ∨ s.count.val = 2 → u.count.val = s.count.val + 1) ∧
    (s.count.val = 3 → s.cfg.pktMode = .rel4 → u.count.val = 0) ∧
    (s.count.val = 3 → s.cfg.pktMode = .abs6 → u.count.val = 4) ∧
    (s.count.val = 4 → u.count.val = 5) ∧
    (s.count.val = 5 → u.count.val = 0)

/-- A `FEED` writes the byte at address `count`, or nothing, and no other byte of `buf`, whatever it dispatches (R53);
it writes no configuration register. -/
def Obligations.FeedWritesOnlyTheByteAtCount : Prop :=
  ∀ (s u : State) (b : Byte) (t : Clk), exec (.feed b t) s = .next u →
    (∀ a, a ≠ s.count.val → u.buf.get? a = s.buf.get? a) ∧
    (u.buf.get? s.count.val = some b ∨ (s.count.val = 0 ∧ u = s)) ∧
    u.cfg = s.cfg ∧ u.par = s.par ∧ u.res = s.res ∧ u.input = s.input

/-- A mode write in mid-packet leaves the packet in progress alone and is seen by the very next length test: the three
cases of R112 (R59, R112). -/
def Obligations.ModeWriteInMidPacketIsSeenByTheNextLengthTest : Prop :=
  ∀ (s : State) (m : PktMode) (b : Byte) (t : Clk), ∃ u v,
    exec (.modew m) s = .next u ∧ u.count = s.count ∧ u.buf = s.buf ∧ exec (.feed b t) u = .next v ∧
    (s.count.val = 3 → m = .rel4 → v.count.val = 0 ∧ v.out ≠ s.out) ∧
    (s.count.val = 3 → m = .abs6 → v.count.val = 4 ∧ v.out = s.out) ∧
    (s.count.val = 4 → v.count.val = 5 ∧ v.out = s.out) ∧
    (s.count.val = 5 → v.count.val = 0 ∧ v.mot.prevZ = b)

/-- A stream of constant mode that starts with `count = 0`, with `n` bytes not discarded, does exactly what the packets
of 4 or 6 bytes cut from these bytes do when they are dispatched one after the other, each with a due button-up before
it: `n / 4` or `n / 6` dispatches, and the rest of the bytes stands in the buffer, `count` at its number (R106, R108,
R111 properties 2 and 3). Only `buf` and `count` are the framer's own. -/
def Obligations.OnePacketPerDeclaredLengthOfAcceptedBytes : Prop :=
  ∀ (bs : List (Byte × Clk)) (s : State), s.count = 0 → ∃ t u, feedAll bs s = .next t ∧
    (s.cfg.pktMode = .rel4 →
      let accepted := acceptedBytes s.par 4 0 bs
      t.count.val = accepted.length % 4 ∧ (relPackets accepted).length = accepted.length / 4 ∧
      dispatchAll (relPackets accepted) s = .next u ∧ t = { u with buf := t.buf, count := t.count } ∧
      ∃ es, t.out = s.out ++ es ∧ (es.filter Event.isScroll).length = accepted.length / 4) ∧
    (s.cfg.pktMode = .abs6 →
      let accepted := acceptedBytes s.par 6 0 bs
      t.count.val = accepted.length % 6 ∧ (absPackets accepted).length = accepted.length / 6 ∧
      dispatchAll (absPackets accepted) s = .next u ∧ t = { u with buf := t.buf, count := t.count })

/-- Six bytes from a SEEKING framer in `ABS6` mode, the first in class `START.OK`, no button-up owed: the result is
one dispatch of the packet of these six bytes, with the clock value of the last (R72, R102, R103, R105, R108). -/
def Obligations.SixBytesMakeOneAbsolutePacket : Prop :=
  ∀ (s : State) (p : Pkt6) (c0 c1 c2 c3 c4 t : Clk), s.count = 0 → s.cfg.pktMode = .abs6 → s.mot.tapArmed = false →
    p.p0 ≠ s.par.ackCode → p.p0 &&& s.par.hdrMask = s.par.hdrValue →
    ∃ m u, m.get? 0 = some p.p0 ∧ m.get? 1 = some p.p1 ∧ m.get? 2 = some p.p2 ∧ m.get? 3 = some p.p3 ∧
      m.get? 4 = some p.p4 ∧ m.get? 5 = some p.p5 ∧ (∀ a, 6 ≤ a → m.get? a = s.buf.get? a) ∧
      exec (.pktAbs6 p t) { s with buf := m } = .next u ∧
      feedAll [(p.p0, c0), (p.p1, c1), (p.p2, c2), (p.p3, c3), (p.p4, c4), (p.p5, t)] s = .next u

/-- A `FEED` that dispatches emits, in this order, a due button-up and the events of the packet: 2 or 3 events for a
`PKT.REL4`, at most 3 for a `PKT.ABS6`; a `FEED` that dispatches nothing emits nothing (R237). -/
def Obligations.EventCountOfOneFeed : Prop :=
  ∀ (s u : State) (b : Byte) (t : Clk), exec (.feed b t) s = .next u → ∃ es, u.out = s.out ++ es ∧
    (s.count.val = 3 → s.cfg.pktMode = .rel4 → 2 ≤ es.length ∧ es.length ≤ 3) ∧
    (s.count.val = 5 → es.length ≤ 3) ∧
    (s.count.val ≠ 5 → ¬(s.count.val = 3 ∧ s.cfg.pktMode = .rel4) → es = []) ∧
    (s.count.val = 5 ∨ (s.count.val = 3 ∧ s.cfg.pktMode = .rel4) → s.mot.tapArmed = true →
      s.mot.tapDeadline ≤ t.toNat → es.head? = some (.motion 0 0 s.mot.lastButtons s.mot.tapDeadline))

/-! ### The relative decoder -/

/-- `DEC.REL4`, and `PKT.REL4` with it: one `MOTION` with the 9-bit `dx` and the inverted 9-bit `dy`, then one `SCROLL`
with the inverted 4-bit wheel; nothing else changes (R76, R138). -/
def Obligations.RelativePacketOfFourBytesIsDecoded : Prop :=
  ∀ (s : State) (p : Pkt4) (now : Clk),
    let dx : Int := (p.p1.toNat : Int) - (if p.p0.toNat / 16 % 2 = 1 then 256 else 0)
    let dy : Int := (p.p2.toNat : Int) - (if p.p0.toNat / 32 % 2 = 1 then 256 else 0)
    let w : Int := ((p.p3.toNat % 16 : Nat) : Int) - (if p.p3.toNat % 16 < 8 then 0 else 16)
    ∃ btn : Buttons, btn.toNat = p.p0.toNat % 8 ∧
      exec (.decRel4 p now) s =
        .next { s with out := s.out ++ [.motion dx (-dy) btn now.toNat, .scroll (-w) 0 now.toNat] } ∧
      exec (.pktRel4 p now) s =
        .next { s with out := s.out ++ [.motion dx (-dy) btn now.toNat, .scroll (-w) 0 now.toNat] }

/-- `DEC.REL3`, and `PKT.REL3` with it: the `MOTION` alone (R76, R137). -/
def Obligations.RelativePacketOfThreeBytesIsDecoded : Prop :=
  ∀ (s : State) (p : Pkt3) (now : Clk),
    let dx : Int := (p.p1.toNat : Int) - (if p.p0.toNat / 16 % 2 = 1 then 256 else 0)
    let dy : Int := (p.p2.toNat : Int) - (if p.p0.toNat / 32 % 2 = 1 then 256 else 0)
    ∃ btn : Buttons, btn.toNat = p.p0.toNat % 8 ∧
      exec (.decRel3 p now) s = .next { s with out := s.out ++ [.motion dx (-dy) btn now.toNat] } ∧
      exec (.pktRel3 p now) s = .next { s with out := s.out ++ [.motion dx (-dy) btn now.toNat] }

/-- A `FEED` that completes a relative packet writes no MotionState register but the two that a due button-up clears,
and where none is due its events depend on no MotionState register and on no configuration register (R139, R33). -/
def Obligations.RelativePacketIgnoresTheClassifier : Prop :=
  ∀ (s u : State) (b : Byte) (t : Clk), s.count.val = 3 → s.cfg.pktMode = .rel4 → exec (.feed b t) s = .next u →
    (s.mot.tapArmed = true ∧ s.mot.tapDeadline ≤ t.toNat → u.mot = { s.mot with tapBtn := false, tapArmed := false }) ∧
    (¬(s.mot.tapArmed = true ∧ s.mot.tapDeadline ≤ t.toNat) → u.mot = s.mot ∧
      ∀ (m : MotionState) (c : ConfigRegs), c.pktMode = .rel4 → ¬(m.tapArmed = true ∧ m.tapDeadline ≤ t.toNat) →
        exec (.feed b t) { s with mot := m, cfg := c } = .next { u with mot := m, cfg := c })

/-- The pseudo-operation `REL4` of R93 and the decoder agree: the decoding gives back every operand, for all of their
values (R76, R93). Its first byte is in class `START.OK` for the default parameters, which the spec presumes (R71; log
entry 15); the layout both sides share is presumed by the spec too (log entry 16). -/
def Obligations.RelativeEncoderRoundTrip : Prop :=
  ∀ (dxr dyr : BitVec 9) (btn : BitVec 3) (w : BitVec 4) (now : Clk) (s : State),
    startClass Config.params (asmRel4 dxr dyr btn w).p0 = .ok ∧
    exec (.decRel4 (asmRel4 dxr dyr btn w) now) s =
      .next { s with out := s.out ++ [.motion dxr.toInt (-dyr.toInt) btn now.toNat, .scroll (-w.toInt) 0 now.toNat] }

/-! ### The absolute decoder -/

/-- `DEC.ABS`: every field of the sample from the bits of the packet; no register is written (R121). The latch the
sample is left in is the model's own (log entry 7). -/
def Obligations.AbsolutePacketFieldsAreDecoded : Prop :=
  ∀ (s : State) (p : Pkt6), ∃ smp : Sample,
    exec (.decAbs p) s = .next { s with res := { s.res with sample := smp } } ∧
    smp.x.toNat = p.p1.toNat % 128 + 128 * (p.p2.toNat / 8 % 16) ∧
    smp.y.toNat = p.p4.toNat % 128 + 128 * (p.p3.toNat / 16 % 8) ∧
    smp.z = p.p5 ∧
    (smp.left = true ↔ p.p3.toNat % 2 = 1) ∧ (smp.right = true ↔ p.p3.toNat / 2 % 2 = 1) ∧
    (smp.middle = true ↔ smp.left = true ∧ smp.right = true) ∧
    (smp.tap = true ↔ p.p2.toNat / 2 % 2 = 1) ∧ (smp.tapClick = true ↔ p.p2.toNat % 2 = 1) ∧
    smp.buttons.toNat = smp.left.toNat + 2 * smp.right.toNat + 4 * smp.middle.toNat

/-- The pseudo-operation `ABS` of R93 and the decoder agree: the decoder recovers exactly the values encoded, for all of
them, with a first byte named or omitted (R93, R130). The latch the sample is read from is the model's own (log entry
7). -/
def Obligations.AbsoluteEncoderRoundTrip : Prop :=
  ∀ (x : XCoord) (y : YCoord) (z : Byte) (left right tap tapClick : Bool) (b0 : Option Byte) (s : State), ∃ smp : Sample,
    exec (.decAbs (asmAbs x y z left right tap tapClick b0)) s = .next { s with res := { s.res with sample := smp } } ∧
    smp.x = x ∧ smp.y = y ∧ smp.z = z ∧ smp.left = left ∧ smp.right = right ∧ smp.middle = (left && right) ∧
    smp.tap = tap ∧ smp.tapClick = tapClick

/-- The ignored bits of every packet format have no effect on any output or state (R77, R128). -/
def Obligations.IgnoredPacketBitsHaveNoEffect : Prop :=
  ∀ (s : State) (now : Clk),
    (∀ p q : Pkt6, p.p1 &&& 0x7F = q.p1 &&& 0x7F → p.p2 &&& 0x7B = q.p2 &&& 0x7B → p.p3 &&& 0x73 = q.p3 &&& 0x73 →
      p.p4 &&& 0x7F = q.p4 &&& 0x7F → p.p5 = q.p5 →
      exec (.pktAbs6 p now) s = exec (.pktAbs6 q now) s ∧ exec (.decAbs p) s = exec (.decAbs q) s) ∧
    (∀ p q : Pkt4, p.p0 &&& 0x37 = q.p0 &&& 0x37 → p.p1 = q.p1 → p.p2 = q.p2 → p.p3 &&& 0x0F = q.p3 &&& 0x0F →
      exec (.pktRel4 p now) s = exec (.pktRel4 q now) s) ∧
    (∀ p q : Pkt3, p.p0 &&& 0x37 = q.p0 &&& 0x37 → p.p1 = q.p1 → p.p2 = q.p2 →
      exec (.pktRel3 p now) s = exec (.pktRel3 q now) s)

/-! ### The stages of the classifier -/

/-- `G.REGION`: strict comparisons, the corner `V` only after `V`; no register is written (R156). The latch of the
result is the model's own (log entry 7). -/
def Obligations.RegionOfASample : Prop :=
  ∀ (s : State) (x : XCoord) (y : YCoord), exec (.gRegion x y) s = .next { s with res := { s.res with region :=
    if 900 < x.toNat ∧ 650 < y.toNat then (if s.mot.prevRegion = .v then .v else .h)
    else if 900 < x.toNat then .v else if 650 < y.toNat then .h else .none } }

/-- `G.TFENTRY`: entry on a pressure of at least 100 with an enable set and not yet in the mode; the reference is
captured then, and not otherwise (R158). -/
def Obligations.TwoFingerEntryCapturesTheReference : Prop :=
  ∀ (s : State) (x : XCoord) (y : YCoord) (z : Byte),
    (100 ≤ z.toNat ∧ (s.cfg.hscrollEn = true ∨ s.cfg.vscrollEn = true) ∧ s.mot.twoFinger = false →
      exec (.gTfentry x y z) s = .next { s with mot := { s.mot with twoFinger := true, refX := x, refY := y } }) ∧
    (¬(100 ≤ z.toNat ∧ (s.cfg.hscrollEn = true ∨ s.cfg.vscrollEn = true) ∧ s.mot.twoFinger = false) →
      exec (.gTfentry x y z) s = .next s)

/-- `G.WILLSCROLL`: the open band 20 to 69 and an enabled region; no register is written (R160). The latch of the
result is the model's own (log entry 7). -/
def Obligations.WillScrollNeedsTheBandAndAnEnabledRegion : Prop :=
  ∀ (s : State) (z : Byte) (r : Region), ∃ b : Bool,
    exec (.gWillscroll z r) s = .next { s with res := { s.res with willScroll := b } } ∧
    (b = true ↔ 20 < z.toNat ∧ z.toNat < 69 ∧
      ((r = .v ∧ s.cfg.vscrollEn = true) ∨ (r = .h ∧ s.cfg.hscrollEn = true)))

/-- `G.TFSCROLL`: the counter saturates, the gate opens at 4, and then one `SCROLL` of the signs of travel leaves, the
counter returns to 0 and the reference is re-anchored (R162). -/
def Obligations.TwoFingerScrollIsGated : Prop :=
  ∀ (s : State) (x : XCoord) (y : YCoord) (now : Clk),
    let c := min (s.mot.cnt.toNat + 1) 255
    (c < 4 → exec (.gTfscroll x y now) s = .next { s with mot := { s.mot with cnt := BitVec.ofNat 8 c } }) ∧
    (4 ≤ c → exec (.gTfscroll x y now) s = .next { s with
      mot := { s.mot with cnt := 0, refX := x, refY := y }
      out := s.out ++ [.scroll (scale s.cfg ((y.toNat : Int) - (s.mot.refY.toNat : Int)).sign)
        (scale s.cfg ((x.toNat : Int) - (s.mot.refX.toNat : Int)).sign) now.toNat] })

/-- `G.EDGESCROLL`: the travel from the reference, which is the position itself where the scroll is entered or the
prior pressure was 0, scaled, on the region's axis alone (R164). The debounce counter is the dispatch's (log entry
9). -/
def Obligations.EdgeScrollReportsTheTravelOnTheRegionsAxis : Prop :=
  ∀ (s : State) (x : XCoord) (y : YCoord) (r : Region) (now : Clk),
    let anchors := s.mot.touchMode ≠ .vScroll ∨ s.mot.prevZ = 0
    let dx : Int := if anchors then 0 else (x.toNat : Int) - (s.mot.refX.toNat : Int)
    let dy : Int := if anchors then 0 else (y.toNat : Int) - (s.mot.refY.toNat : Int)
    exec (.gEdgescroll x y r now) s = .next { s with
      mot := { s.mot with refX := x, refY := y, touchMode := .vScroll }
      out := s.out ++ [.scroll (if r = .v then scale s.cfg dy else 0) (if r = .h then scale s.cfg dx else 0) now.toNat] }

/-- `G.MOVE`: with the tap flag the frame-to-frame delta, zero during the warm-up, and `MOVE`; without it a zero
delta; the buttons with the synthetic one held (R166, R167). -/
def Obligations.MoveReportsTheFrameDelta : Prop :=
  ∀ (s : State) (x : XCoord) (y : YCoord) (tap : Bool) (b : Buttons) (now : Clk),
    let held := if s.mot.tapBtn = true then b ||| 1 else b
    (tap = true → s.mot.warmCount.toNat < s.par.warmupPackets.toNat →
      exec (.gMove x y tap b now) s = .next { s with
        mot := { s.mot with touchMode := .move }, out := s.out ++ [.motion 0 0 held now.toNat] }) ∧
    (tap = true → s.par.warmupPackets.toNat ≤ s.mot.warmCount.toNat →
      exec (.gMove x y tap b now) s = .next { s with
        mot := { s.mot with touchMode := .move }
        out := s.out ++ [.motion ((x.toNat : Int) - (s.mot.prevX.toNat : Int)) ((y.toNat : Int) - (s.mot.prevY.toNat : Int))
          held now.toNat] }) ∧
    (tap = false → exec (.gMove x y tap b now) s = .next { s with out := s.out ++ [.motion 0 0 held now.toNat] })

/-- `G.TAPCLICK`: the asserted flag (R172), the release that is a click and the one that is not (R174), and the end of
the touch (R176). -/
def Obligations.TapClickDecidesAtTheRelease : Prop :=
  ∀ (s : State) (tap : Bool) (b : Buttons) (now : Clk),
    let clicks := s.mot.prevTapClick = true ∧ s.cfg.clicking = true ∧
      (now.toNat : Int) - (s.mot.lastTapTime.toNat : Int) < (s.cfg.maxTapTime.toNat : Int)
    let ended : MotionState → MotionState := fun m =>
      if tap = true then m else { m with touchMode := .noTouch, twoFinger := false }
    exec (.gTapclick tap true b now) s = .next { s with mot := { s.mot with
      lastTapTime := if s.mot.prevTapClick = true then s.mot.lastTapTime else now, touchMode := .multiTouch } } ∧
    (clicks → exec (.gTapclick tap false b now) s = .next { s with
      mot := ended { s.mot with tapBtn := true, tapArmed := true, tapDeadline := now.toNat + s.par.tapUpDelay.toNat }
      out := s.out ++ [.motion 0 0 (b ||| 1) now.toNat] }) ∧
    (¬clicks → exec (.gTapclick tap false b now) s = .next { s with mot := ended s.mot })

/-- `G.COMMIT`: the "previous" registers and the warm-up count, and nothing else (R180). -/
def Obligations.CommitUpdatesThePreviousRegisters : Prop :=
  ∀ (s : State) (x : XCoord) (y : YCoord) (z : Byte) (r : Region) (tap tapClick : Bool) (b : Buttons),
    exec (.gCommit x y z r tap tapClick b) s = .next { s with mot := { s.mot with
      prevX := x, prevY := y, prevZ := z, prevRegion := r, prevTapClick := tapClick, lastButtons := b
      warmCount := if tap = true then BitVec.ofNat 8 (min (s.mot.warmCount.toNat + 1) 255) else 0 } }

/-! ### The whole classification -/

/-- `PKT.ABS6` is the decoder and the stages run as operations in the order of R150, with exactly one of the three
paths and the debounce counter before its choice (R105, R161, R163). The result latches are the model's own (log entry
7). -/
def Obligations.AbsolutePacketRunsItsStagesInOrder : Prop :=
  ∀ (s : State) (p : Pkt6) (now : Clk), ∃ s1 s2 s3 s4 s5 s6 s7 s8 : State,
    exec (.decAbs p) s = .next s1 ∧
    exec (.gRegion s1.res.sample.x s1.res.sample.y) s1 = .next s2 ∧
    exec (.gTfentry s1.res.sample.x s1.res.sample.y s1.res.sample.z) s2 = .next s3 ∧
    exec (.gWillscroll s1.res.sample.z s2.res.region) s3 = .next s4 ∧
    s5 = (if s4.mot.twoFinger = true then s4 else { s4 with mot := { s4.mot with
      cnt := if s4.res.willScroll = true then BitVec.ofNat 8 (min (s4.mot.cnt.toNat + 1) 255) else 0 } }) ∧
    exec (if s4.mot.twoFinger = true then .gTfscroll s1.res.sample.x s1.res.sample.y now
      else if s4.res.willScroll = true ∧ (21 < s5.mot.cnt.toNat ∨ s5.mot.touchMode = .vScroll) then
        .gEdgescroll s1.res.sample.x s1.res.sample.y s2.res.region now
      else .gMove s1.res.sample.x s1.res.sample.y s1.res.sample.tap s1.res.sample.buttons now) s5 = .next s6 ∧
    exec (.gTapclick s1.res.sample.tap s1.res.sample.tapClick s1.res.sample.buttons now) s6 = .next s7 ∧
    exec (.gCommit s1.res.sample.x s1.res.sample.y s1.res.sample.z s2.res.region s1.res.sample.tap
      s1.res.sample.tapClick s1.res.sample.buttons) s7 = .next s8 ∧
    exec (.pktAbs6 p now) s = .next { s8 with res := s.res }

/-- `touchMode` at the end of an absolute packet, by `tapClick`, `tap` and the path taken (R178). -/
def Obligations.TouchModeFollowsItsTransitionTable : Prop :=
  ∀ (s : State) (p : Pkt6) (now : Clk), ∃ t, exec (.pktAbs6 p now) s = .next t ∧
    ((decodeAbs p).tapClick = true → t.mot.touchMode = .multiTouch) ∧
    ((decodeAbs p).tapClick = false → (decodeAbs p).tap = false → t.mot.touchMode = .noTouch) ∧
    ((decodeAbs p).tapClick = false → (decodeAbs p).tap = true →
      (s.twoFingerAfterEntry (decodeAbs p) → t.mot.touchMode = s.mot.touchMode) ∧
      (¬s.twoFingerAfterEntry (decodeAbs p) → s.edgeScrollOn (decodeAbs p) → t.mot.touchMode = .vScroll) ∧
      (¬s.twoFingerAfterEntry (decodeAbs p) → ¬s.edgeScrollOn (decodeAbs p) → t.mot.touchMode = .move))

/-- What every absolute packet emits: the event of its path, then the button-down of a click where the packet releases
one, and nothing else. Two-finger scroll emits at most one `SCROLL`, edge scroll exactly one `SCROLL`, motion exactly
one `MOTION` (R161, R162, R164, R166, R174, R237). -/
def Obligations.PathDecidesTheEventPort : Prop :=
  ∀ (s : State) (p : Pkt6) (now : Clk), ∃ t es cs, exec (.pktAbs6 p now) s = .next t ∧ t.out = s.out ++ es ++ cs ∧
    (s.twoFingerAfterEntry (decodeAbs p) → es.length ≤ 1 ∧ ∀ e ∈ es, e.isScroll = true) ∧
    (¬s.twoFingerAfterEntry (decodeAbs p) → s.edgeScrollOn (decodeAbs p) → es.length = 1 ∧ ∀ e ∈ es, e.isScroll = true) ∧
    (¬s.twoFingerAfterEntry (decodeAbs p) → ¬s.edgeScrollOn (decodeAbs p) →
      es.length = 1 ∧ ∀ e ∈ es, e.isScroll = false) ∧
    (s.clickReleased (decodeAbs p) now → cs = [.motion 0 0 ((decodeAbs p).buttons ||| 1) now.toNat]) ∧
    (¬s.clickReleased (decodeAbs p) now → cs = [])

/-- Two-finger mode is entered only by pressure with an enable, and left exactly by a packet with neither flag (R158,
R159, R176, and R48's last line). -/
def Obligations.TwoFingerModeIsEnteredAndLeft : Prop :=
  ∀ (s : State) (p : Pkt6) (now : Clk), ∃ t, exec (.pktAbs6 p now) s = .next t ∧
    (t.mot.twoFinger = true ↔
      s.twoFingerAfterEntry (decodeAbs p) ∧ ((decodeAbs p).tap = true ∨ (decodeAbs p).tapClick = true))

/-- A click is produced exactly at a release under the tap time with tap-to-click enabled: it is the last event of the
packet and arms the button-up; otherwise the synthetic button and the schedule stay as they were (R174). -/
def Obligations.ClickExactlyOnAShortTapRelease : Prop :=
  ∀ (s : State) (p : Pkt6) (now : Clk), ∃ t es, exec (.pktAbs6 p now) s = .next t ∧ t.out = s.out ++ es ∧
    ((decodeAbs p).tapClick = false → s.mot.prevTapClick = true → s.cfg.clicking = true →
      (now.toNat : Int) - (s.mot.lastTapTime.toNat : Int) < (s.cfg.maxTapTime.toNat : Int) →
      es.getLast? = some (.motion 0 0 ((decodeAbs p).buttons ||| 1) now.toNat) ∧ t.mot.tapBtn = true ∧
      t.mot.tapArmed = true ∧ t.mot.tapDeadline = now.toNat + s.par.tapUpDelay.toNat) ∧
    ((decodeAbs p).tapClick = true ∨ s.mot.prevTapClick = false ∨ s.cfg.clicking = false ∨
      (s.cfg.maxTapTime.toNat : Int) ≤ (now.toNat : Int) - (s.mot.lastTapTime.toNat : Int) →
      es.length ≤ 1 ∧ t.mot.tapBtn = s.mot.tapBtn ∧ t.mot.tapArmed = s.mot.tapArmed ∧
      t.mot.tapDeadline = s.mot.tapDeadline)

/-- In two-finger mode, entered with the counter at 0 and kept by the tap flag, every fourth packet emits one `SCROLL`
and no other packet emits anything (R162). -/
def Obligations.TwoFingerScrollsOnEveryFourthPacket : Prop :=
  ∀ (ps : List (Pkt6 × Clk)) (s : State), s.mot.twoFinger = true → s.mot.cnt = 0 → s.mot.prevTapClick = false →
    (∀ p ∈ ps, (decodeAbs p.1).tap = true ∧ (decodeAbs p.1).tapClick = false) →
    ∃ t es, packetAll ps s = .next t ∧ t.out = s.out ++ es ∧ es.length = ps.length / 4 ∧
      (∀ e ∈ es, e.isScroll = true) ∧ t.mot.cnt.toNat = ps.length % 4 ∧ t.mot.twoFinger = true

/-- A finger on the right edge with the pressure in the band: the first 21 packets report motion, the 22nd and every
later one scrolls, and the counter saturates (R163, R164, R152). -/
def Obligations.EdgeScrollBeginsOnTheTwentySecondPacket : Prop :=
  ∀ (ps : List (Pkt6 × Clk)) (s : State), s.mot.twoFinger = false → s.mot.cnt = 0 → s.mot.touchMode ≠ .vScroll →
    s.mot.prevTapClick = false → s.cfg.vscrollEn = true →
    (∀ p ∈ ps, 900 < (decodeAbs p.1).x.toNat ∧ (decodeAbs p.1).y.toNat ≤ 650 ∧ 20 < (decodeAbs p.1).z.toNat ∧
      (decodeAbs p.1).z.toNat < 69 ∧ (decodeAbs p.1).tapClick = false) →
    ∃ t es, packetAll ps s = .next t ∧ t.out = s.out ++ es ∧ es.length = ps.length ∧
      (∀ e ∈ es.take 21, e.isScroll = false) ∧ (∀ e ∈ es.drop 21, e.isScroll = true) ∧
      t.mot.cnt.toNat = min ps.length 255

/-- The first `WARMUP_PACKETS` packets of a touch report no motion, whatever path they take (R167). -/
def Obligations.FirstPacketsOfATouchReportNoMotion : Prop :=
  ∀ (ps : List (Pkt6 × Clk)) (s : State), s.mot.warmCount = 0 → ps.length ≤ s.par.warmupPackets.toNat →
    (∀ p ∈ ps, (decodeAbs p.1).tap = true) →
    ∃ t es, packetAll ps s = .next t ∧ t.out = s.out ++ es ∧ t.mot.warmCount.toNat = ps.length ∧
      ∀ dx dy b ts, Event.motion dx dy b ts ∈ es → dx = 0 ∧ dy = 0

/-! ### Configuration, the acceleration factor, the timer, the events -/

/-- `MODEW m` writes `PKT_MODE` only (R204). -/
def Obligations.ModeWriteSetsTheModeOnly : Prop :=
  ∀ (s : State) (m : PktMode), exec (.modew m) s = .next { s with cfg := { s.cfg with pktMode := m } }

/-- Each `CFGW` writes its one register, with the value of R81, and nothing else (R202). -/
def Obligations.ConfigurationWriteSetsItsRegisterOnly : Prop :=
  ∀ (s : State) (r : BitVec 4) (v : BitVec 64),
    exec (.cfgwClicking v) s = .next { s with cfg := { s.cfg with clicking := decide (v.toNat ≠ 0) } } ∧
    exec (.cfgwDragging v) s = .next { s with cfg := { s.cfg with dragging := decide (v.toNat ≠ 0) } } ∧
    exec (.cfgwDraglock v) s = .next { s with cfg := { s.cfg with draglock := decide (v.toNat ≠ 0) } } ∧
    exec (.cfgwHscrollEn v) s = .next { s with cfg := { s.cfg with hscrollEn := decide (v.toNat ≠ 0) } } ∧
    exec (.cfgwVscrollEn v) s = .next { s with cfg := { s.cfg with vscrollEn := decide (v.toNat ≠ 0) } } ∧
    exec (.cfgwScrollAccelRaw v) s = .next { s with cfg := { s.cfg with scrollAccelRaw := BitVec.ofNat 32 v.toNat } } ∧
    exec (.cfgwPointerAccelRaw v) s = .next { s with cfg := { s.cfg with pointerAccelRaw := BitVec.ofNat 32 v.toNat } } ∧
    exec (.cfgwMaxTapTime v) s = .next { s with cfg := { s.cfg with maxTapTime := v } } ∧
    exec (.cfgwIgnored r v) s = .next s

/-- Read back by number: after `CFGW r, v` register `r` holds the value of R81 (numbers 0 and 9 to 15: as before) and
every other number reads as before (R202, R50). Reading by number is the model's own view (log entry 20). -/
def Obligations.ConfigurationWriteReadBack : Prop :=
  ∀ (s : State) (r : BitVec 4) (v : BitVec 64), ∃ t, exec (cfgInstr r v) s = .next t ∧ t = { s with cfg := t.cfg } ∧
    (∀ q : BitVec 4, q ≠ r → t.cfgRead q = s.cfgRead q) ∧
    (1 ≤ r.toNat → r.toNat ≤ 5 → t.cfgRead r = some (if v = 0 then 0 else 1)) ∧
    (r.toNat = 6 ∨ r.toNat = 7 → ∃ n : BitVec 64, t.cfgRead r = some n ∧
      n.toInt = ((v.toNat % 4294967296 : Nat) : Int) - (if v.toNat % 4294967296 < 2147483648 then 0 else 4294967296)) ∧
    (r.toNat = 8 → t.cfgRead r = some v) ∧
    (r.toNat = 0 ∨ 9 ≤ r.toNat → t = s)

/-- `SCALE(d)` is the exact product of `d` and `A` truncated toward zero, with `A` = max(raw / 1966.08 / 375.0, 0.01);
it is 0 at 0, odd, and no larger than the product (R206, R207). -/
def Obligations.ScaleIsTheTruncatedProduct : Prop :=
  ∀ (c : ConfigRegs) (d : Int),
    let a : ℚ := max ((c.scrollAccelRaw.toInt : ℚ) / 1966.08 / 375.0) 0.01
    (0 ≤ d → scale c d = ⌊(d : ℚ) * a⌋) ∧ (d ≤ 0 → scale c d = ⌈(d : ℚ) * a⌉) ∧
    scale c 0 = 0 ∧ scale c (-d) = -scale c d ∧ |(scale c d : ℚ)| ≤ |(d : ℚ)| * a

/-- `TIMER.EXPIRE`, enabled only while a button-up is scheduled: the synthetic button released, the event with the
physical buttons and the scheduled time, and nothing else (R212). -/
def Obligations.TimerReleasesTheSyntheticButton : Prop :=
  ∀ s : State, s.mot.tapArmed = true → exec .timerExpire s = .next { s with
    mot := { s.mot with tapBtn := false, tapArmed := false }
    out := s.out ++ [.motion 0 0 s.mot.lastButtons s.mot.tapDeadline] }

/-- `EV.MOTION` and `EV.SCROLL` place one event on their port, the signed fields read as two's complement, and change
nothing else (R80; the output list is the model's own, log entries 6 and 22). -/
def Obligations.EventOperationsEmitOneEvent : Prop :=
  ∀ (s : State) (dx dy v h : BitVec 32) (b : Buttons) (ts : Clk),
    exec (.evMotion dx dy b ts) s = .next { s with out := s.out ++ [.motion dx.toInt dy.toInt b ts.toNat] } ∧
    exec (.evScroll v h ts) s = .next { s with out := s.out ++ [.scroll v.toInt h.toInt ts.toNat] }

/-! ### Encodings -/

/-- Decoding inverts encoding for every well-formed operation that has a port word, and every word that decodes is the
encoding of the one, well-formed, operation it decodes to (R81, R71; the layout of a word is the model's choice, log
entry 10). -/
def Obligations.DecodingInvertsEncoding : Prop :=
  (∀ (par : Params) (i : Instr) (w : PortWord), i.wf par = true → encode i = some w →
    (∀ b t, i ≠ .feed b t) → decode par true w = .ok i) ∧
  (∀ (par : Params) (i : Instr) (w : PortWord), i.wf par = true → encode i = some w → i.isStartClass = false →
    decode par false w = .ok i) ∧
  (∀ (par : Params) (k : Bool) (w : PortWord) (i : Instr), decode par k w = .ok i →
    i.wf par = true ∧ ∃ w', encode i = some w' ∧ w'.port = w.port ∧ w'.bytes = w.bytes)

/-- A few words of the opcode table decode to their rows' operations: the three start-byte classes, a configuration
write, and a packet of each format (R71 to R74, R81). The classes of 0xFA, 0x00 and 0x18 are those of the default
parameters, which the spec presumes (log entry 15); that the bare word 0x06 is read as a register number on `CFG`, and
with the value 0, and that a bare packet has its lowest byte as `p[0]` and the clock value 0, is the model's choice (log
entry 11). -/
def Obligations.TableWordsDecodeToTheirRows : Prop :=
  decodeTableWord 8 0xFA = some (.startAck 0xFA) ∧ decodeTableWord 8 0x00 = some (.startBadhdr 0x00) ∧
  decodeTableWord 8 0x18 = some (.startOk 0x18) ∧ decodeTableWord 8 0x06 = some (.cfgwScrollAccelRaw 0) ∧
  decodeTableWord 24 0x030509 = some (.pktRel3 ⟨0x09, 0x05, 0x03⟩ 0) ∧
  decodeTableWord 32 0x0F02FB38 = some (.pktRel4 ⟨0x38, 0xFB, 0x02, 0x0F⟩ 0) ∧
  decodeTableWord 48 0x5937434B5208 = some (.pktAbs6 ⟨0x08, 0x52, 0x4B, 0x43, 0x37, 0x59⟩ 0)

/-! ### Invariants and whole-machine rules -/

/-- Right after reset the invariants hold: those of R48, the packet buffer's, and the event ranges of R153. -/
def Obligations.ResetStateHasTheInvariants : Prop :=
  State.reset.Inv ∧ State.reset.scrollPressure ∧ State.reset.timeOrdered 0

/-- Every step keeps them: the packet buffer canonical, the packet in progress written, `tapBtn = tapArmed`, every event
within its 32-bit fields (R48, R11, R53, R153). -/
def Obligations.EveryStepKeepsTheInvariants : Prop :=
  ∀ s t : State, s.Inv → step s = .next t → t.Inv

/-- Every step keeps what R164 remarks of its re-anchoring clause: `prevZ = 0` never coincides with `V_SCROLL` outside
two-finger mode. -/
def Obligations.EveryStepKeepsScrollingWithPressure : Prop :=
  ∀ s t : State, s.scrollPressure → step s = .next t → t.scrollPressure

/-- Every step keeps the event timestamps in order, whichever operation it runs, as long as the clock values that are
sampled do not decrease: a byte that completes a packet comes at `τ` or later, and moves `τ` to no later than its own
clock value; no other operation moves it; and so do a `FEED` at `τ` or later and `TIMER.EXPIRE` on their own (R216).
That the timer acts by itself where the script is empty is log entry 12. -/
def Obligations.EventTimestampsStayInOrder : Prop :=
  ∀ (s : State) (τ : Time), s.timeOrdered τ →
    (∀ (b : Byte) (t : Clk) (u : State), τ ≤ t.toNat → exec (.feed b t) s = .next u →
      ∃ τ', τ ≤ τ' ∧ τ' ≤ t.toNat ∧ u.timeOrdered τ') ∧
    (∀ u : State, exec .timerExpire s = .next u → ∃ τ', τ ≤ τ' ∧ u.timeOrdered τ') ∧
    (∀ u : State, step s = .next u →
      (∀ w rest, s.input = w :: rest → w.port = .byteIn → s.byteCompletes → τ ≤ w.clk.toNat) →
      ∃ τ', τ ≤ τ' ∧ u.timeOrdered τ' ∧ ∀ w rest, s.input = w :: rest →
        τ' = τ ∨ (w.port = .byteIn ∧ s.byteCompletes ∧ τ' ≤ w.clk.toNat))

/-- Only the dispatch of an absolute packet, the button-up and `RESET` write MotionState; a relative packet, a discarded
byte, an incomplete packet and a configuration write do not (R33, R139, R240). -/
def Obligations.OnlyPacketsTimerAndResetWriteMotionState : Prop :=
  ∀ s t : State, step s = .next t → t.mot ≠ s.mot →
    (s.input = [] ∧ s.mot.tapArmed = true) ∨
    ∃ w rest, s.input = w :: rest ∧
      (w.port = .rst ∨ (w.port = .byteIn ∧ s.count.val = 5) ∨
        (w.port = .byteIn ∧ s.count.val = 3 ∧ s.cfg.pktMode = .rel4 ∧ s.mot.tapArmed = true ∧
          s.mot.tapDeadline ≤ w.clk.toNat ∧ t.mot = { s.mot with tapBtn := false, tapArmed := false }))

/-- Only the host configuration context's ports write the configuration registers, and only `BYTE_IN` writes the packet
buffer (R36, R240, R50). -/
def Obligations.OnlyTheHostPortsWriteTheConfiguration : Prop :=
  ∀ s t : State, step s = .next t →
    (t.cfg ≠ s.cfg → ∃ w rest, s.input = w :: rest ∧ w.port.context = .hostConfiguration) ∧
    (t.buf ≠ s.buf → ∃ w rest, s.input = w :: rest ∧ w.port = .byteIn)

/-- `DRAGGING`, `DRAGLOCK` and `POINTER_ACCEL_RAW` are read by nothing: erasing them before a step changes nothing else
after it (R39, R40, R44). -/
def Obligations.UnusedRegistersAreUnobservable : Prop :=
  ∀ s t : State, step s = .next t → ∃ u, step s.eraseUnused = .next u ∧ u.eraseUnused = t.eraseUnused

/-- Every run of a script of words that decode ends with `tapBtn = 0` and `tapArmed = 0`: after one step for each word and
one more, nothing is pending and no button-up is owed (R214); a `RESET` in the script drops one (R260). The script is the model's own field (log entry 5), and
that the one further step is the button-up by itself is the model's reading (log entry 12). -/
def Obligations.EveryRunEndsWithTheButtonReleased : Prop :=
  ∀ s : State, (∀ w ∈ s.input, ∀ k, ∃ i, decode s.par k w = .ok i) → s.mot.tapBtn = s.mot.tapArmed →
    ∃ t, stepTimes (s.input.length + 1) s = .next t ∧ t.runOver = true ∧ t.input = [] ∧ t.mot.tapArmed = false ∧
      t.mot.tapBtn = false
end

