-- ==== Sys2Proof/Laws/Classifier.lean ====
section
/-! SUPPORT. The stages of the classifier, each said once: the registers it leaves alone and what it can emit. -/

namespace Sys2Proof.Machine

/-! ### Counters, signs and conditions -/

/-- `sat8` of the successor, as a number (R8). -/
theorem satSucc_toNat (n : BitVec 8) : (satSucc n).toNat = min (n.toNat + 1) 255 := by
  have := n.isLt
  unfold satSucc
  split
  · rename_i h; subst h; rfl
  · rename_i h
    have h' : n.toNat ≠ 255 := fun e => h (BitVec.eq_of_toNat_eq (by simpa using e))
    rw [BitVec.toNat_add]
    simp
    omega

/-- The right edge, with the number of R7 (R156). -/
theorem inVertical_iff (x : XCoord) : inVertical x = true ↔ 900 < x.toNat := decide_eq_true_iff

/-- The bottom edge, with the number of R7 (R156). -/
theorem inHorizontal_iff (y : YCoord) : inHorizontal y = true ↔ 650 < y.toNat := decide_eq_true_iff

/-- The pressure band, with the numbers of R7 (R160). -/
theorem inBand_iff (z : Byte) : inBand z = true ↔ 20 < z.toNat ∧ z.toNat < 69 := by
  unfold inBand
  rw [Bool.and_eq_true, decide_eq_true_iff, decide_eq_true_iff]
  rfl

/-- The two-finger gate, with the number of R7 (R162). -/
theorem gateOpen_iff (n : BitVec 8) : gateOpen n = true ↔ 4 ≤ n.toNat := decide_eq_true_iff

/-- The entry into two-finger mode, with the number of R7 (R158). -/
theorem twoFingerEntry_iff (cfg : ConfigRegs) (z : Byte) (m : MotionState) :
    twoFingerEntry cfg z m = true ↔
      100 ≤ z.toNat ∧ (cfg.hscrollEn = true ∨ cfg.vscrollEn = true) ∧ m.twoFinger = false := by
  unfold twoFingerEntry anyScrollEnabled
  rw [Bool.and_eq_true, Bool.and_eq_true, decide_eq_true_iff, Bool.or_eq_true, Bool.not_eq_true', and_assoc]
  rfl

/-- The edge-scroll choice, with the number of R7 (R161). -/
theorem edgeSelected_iff_counter (willScroll : Bool) (m : MotionState) :
    edgeSelected willScroll m = true ↔ willScroll = true ∧ (21 < m.cnt.toNat ∨ m.touchMode = .vScroll) := by
  unfold edgeSelected
  rw [Bool.and_eq_true, Bool.or_eq_true, decide_eq_true_iff, beq_iff_eq]
  rfl

/-- The region, read in the words of R156. -/
theorem regionIs_regionOf (s : State) (smp : Sample) : s.regionIs smp (regionOf s.mot.prevRegion smp.x smp.y) := by
  unfold State.regionIs regionOf inVertical inHorizontal Config.edgeX Config.edgeY
  by_cases h1 : 900 < smp.x.toNat <;> by_cases h2 : 650 < smp.y.toNat <;> simp [h1, h2, not_lt.1]

/-- A sample has one region. -/
theorem regionIs_iff (s : State) (smp : Sample) (r : Region) :
    s.regionIs smp r ↔ regionOf s.mot.prevRegion smp.x smp.y = r := by
  constructor
  · unfold State.regionIs regionOf inVertical inHorizontal Config.edgeX Config.edgeY
    rintro (⟨h1, h2, rfl⟩ | ⟨h1, h2, rfl⟩ | ⟨h1, h2, rfl⟩ | ⟨h1, h2, rfl⟩) <;> simp [h1, h2, not_lt.2]
  · rintro rfl
    exact regionIs_regionOf s smp

/-- `willScroll`, read in the words of R160. -/
theorem willScrollFlag_iff (s : State) (smp : Sample) :
    willScrollFlag s.cfg smp.z (regionOf s.mot.prevRegion smp.x smp.y) = true ↔ s.willScrollOn smp := by
  unfold State.willScrollOn willScrollFlag inBand Config.zBandLo Config.zBandHi
  simp only [regionIs_iff]
  cases regionOf s.mot.prevRegion smp.x smp.y <;> simp [regionEnabled, and_assoc]

/-! ### What a stage leaves alone -/

/-- Stage 2 writes the two-finger flag and the reference, or nothing (R158). -/
theorem stageTfEntry_cases (cfg : ConfigRegs) (x : XCoord) (y : YCoord) (z : Byte) (m : MotionState) :
    (twoFingerEntry cfg z m = true ∧ stageTfEntry cfg x y z m = { m with twoFinger := true, refX := x, refY := y }) ∨
    (twoFingerEntry cfg z m = false ∧ stageTfEntry cfg x y z m = m) := by
  unfold stageTfEntry
  cases h : twoFingerEntry cfg z m <;> simp

/-- Stage 2 leaves every other register alone. -/
theorem stageTfEntry_frame (cfg : ConfigRegs) (x : XCoord) (y : YCoord) (z : Byte) (m : MotionState) :
    ∃ tf rx ry, stageTfEntry cfg x y z m = { m with twoFinger := tf, refX := rx, refY := ry } := by
  rcases stageTfEntry_cases cfg x y z m with ⟨-, h⟩ | ⟨-, h⟩ <;> rw [h] <;> exact ⟨_, _, _, rfl⟩

/-- The two-finger flag after stage 2, read in the words of R158. -/
theorem stageTfEntry_twoFinger (s : State) (smp : Sample) :
    (stageTfEntry s.cfg smp.x smp.y smp.z s.mot).twoFinger = true ↔ s.twoFingerAfterEntry smp := by
  unfold State.twoFingerAfterEntry stageTfEntry twoFingerEntry anyScrollEnabled Config.zTwoFinger
  cases h : s.mot.twoFinger <;> by_cases hz : 100 ≤ smp.z.toNat <;> cases h1 : s.cfg.hscrollEn <;>
    cases h2 : s.cfg.vscrollEn <;> simp [h, hz]

/-- Stage 4, read (R162). -/
theorem stageTfScroll_cases (cfg : ConfigRegs) (x : XCoord) (y : YCoord) (now : Clk) (m : MotionState) :
    (4 ≤ min (m.cnt.toNat + 1) 255 ∧ stageTfScroll cfg x y now m =
      ({ m with cnt := 0, refX := x, refY := y },
        [.scroll (scale cfg (sgn (coordDiff y m.refY))) (scale cfg (sgn (coordDiff x m.refX))) now.toNat])) ∨
    (min (m.cnt.toNat + 1) 255 < 4 ∧ stageTfScroll cfg x y now m = ({ m with cnt := satSucc m.cnt }, [])) := by
  unfold stageTfScroll gateOpen Config.tfGate
  simp only [satSucc_toNat, decide_eq_true_eq]
  by_cases h : 4 ≤ min (m.cnt.toNat + 1) 255
  · exact .inl ⟨h, if_pos h⟩
  · exact .inr ⟨not_le.1 h, if_neg h⟩

/-- Stage 5, read: one `SCROLL`, the reference and the mode (R164). -/
theorem stageEdgeScroll_eq (cfg : ConfigRegs) (x : XCoord) (y : YCoord) (region : Region) (now : Clk) (m : MotionState) :
    ∃ v h, stageEdgeScroll cfg x y region now m =
      ({ m with refX := x, refY := y, touchMode := .vScroll }, [.scroll v h now.toNat]) := ⟨_, _, rfl⟩

/-- Stage 6, read: one `MOTION` and, with the tap flag, the mode (R166). -/
theorem stageMove_eq (par : Params) (x : XCoord) (y : YCoord) (tap : Bool) (buttons : Buttons) (now : Clk)
    (m : MotionState) :
    ∃ dx dy, stageMove par x y tap buttons now m =
      ({ m with touchMode := if tap then .move else m.touchMode }, [.motion dx dy (heldButtons m buttons) now.toNat]) ∧
      (tap = false ∨ m.warmCount.toNat < par.warmupPackets.toNat → dx = 0 ∧ dy = 0) := by
  refine ⟨_, _, rfl, ?_⟩
  rintro (rfl | h)
  · exact ⟨rfl, rfl⟩
  · have : warmingUp par m = true := by simpa [warmingUp] using h
    simp [this]

/-- Which of the three paths a packet takes, and the mode, the events and their number on each (R161). -/
theorem stagePath_cases (par : Params) (cfg : ConfigRegs) (smp : Sample) (region : Region) (now : Clk) (m : MotionState) :
    let ws := willScrollFlag cfg smp.z region
    (m.twoFinger = true ∧ stagePath par cfg smp region now m = stageTfScroll cfg smp.x smp.y now m) ∨
    (m.twoFinger = false ∧ edgeSelected ws (debounce ws m) = true ∧
      stagePath par cfg smp region now m = stageEdgeScroll cfg smp.x smp.y region now (debounce ws m)) ∨
    (m.twoFinger = false ∧ edgeSelected ws (debounce ws m) = false ∧
      stagePath par cfg smp region now m = stageMove par smp.x smp.y smp.tap smp.buttons now (debounce ws m)) := by
  intro ws
  unfold stagePath
  cases h : m.twoFinger
  · cases h' : edgeSelected ws (debounce ws m) <;> simp [ws, h'] at *
  · simp

/-- One of the stages 4, 5 and 6 and the debounce counter leave alone every register that belongs to the tap and to
the commit. -/
theorem stagePath_frame (par : Params) (cfg : ConfigRegs) (smp : Sample) (region : Region) (now : Clk) (m : MotionState) :
    ∃ rx ry c tm, (stagePath par cfg smp region now m).1 = { m with refX := rx, refY := ry, cnt := c, touchMode := tm } := by
  rcases stagePath_cases par cfg smp region now m with ⟨-, h⟩ | ⟨-, -, h⟩ | ⟨-, -, h⟩ <;> rw [h]
  · rcases stageTfScroll_cases cfg smp.x smp.y now m with ⟨-, h⟩ | ⟨-, h⟩ <;> rw [h] <;> exact ⟨_, _, _, _, rfl⟩
  · exact ⟨_, _, _, _, rfl⟩
  · exact ⟨_, _, _, _, rfl⟩

/-- The edge-scroll condition, read in the words of R161 and R163. -/
theorem edgeSelected_iff (s : State) (smp : Sample) :
    edgeSelected (willScrollFlag s.cfg smp.z (regionOf s.mot.prevRegion smp.x smp.y))
        (debounce (willScrollFlag s.cfg smp.z (regionOf s.mot.prevRegion smp.x smp.y))
          (stageTfEntry s.cfg smp.x smp.y smp.z s.mot)) = true ↔ s.edgeScrollOn smp := by
  obtain ⟨tf, rx, ry, he⟩ := stageTfEntry_frame s.cfg smp.x smp.y smp.z s.mot
  rw [he]
  unfold State.edgeScrollOn
  rw [← willScrollFlag_iff]
  have hc := s.mot.cnt.isLt
  cases h : willScrollFlag s.cfg smp.z (regionOf s.mot.prevRegion smp.x smp.y)
  · simp [edgeSelected]
  · simp only [edgeSelected, debounce, Config.scrollDelayThresh, satSucc_toNat, Bool.true_and, Bool.or_eq_true,
      decide_eq_true_eq, beq_iff_eq, if_true, true_and]
    constructor
    · rintro (h | h)
      · left; omega
      · exact .inr h
    · rintro (h | h)
      · left; omega
      · exact .inr h

/-- Stage 7, read: the asserted flag, the release that is a click, and the release or absence that is not (R170). -/
theorem stageTapClick_cases (par : Params) (cfg : ConfigRegs) (tap tapClick : Bool) (buttons : Buttons) (now : Clk)
    (m : MotionState) :
    (tapClick = true ∧ stageTapClick par cfg tap tapClick buttons now m =
      ({ m with lastTapTime := if m.prevTapClick then m.lastTapTime else now, touchMode := .multiTouch }, [])) ∨
    (tapClick = false ∧ isClick cfg now m = true ∧ stageTapClick par cfg tap tapClick buttons now m =
      (endTouch tap { m with tapBtn := true, tapArmed := true, tapDeadline := now.toNat + par.tapUpDelay.toNat },
        [.motion 0 0 (buttons ||| Config.tapButton) now.toNat])) ∨
    (tapClick = false ∧ isClick cfg now m = false ∧ stageTapClick par cfg tap tapClick buttons now m =
      (endTouch tap m, [])) := by
  unfold stageTapClick
  cases tapClick
  · cases h : isClick cfg now m <;> simp [click]
  · simp

/-- The end of a touch writes the mode and the two-finger flag, or nothing (R176). -/
theorem endTouch_frame (tap : Bool) (m : MotionState) :
    ∃ tm tf, endTouch tap m = { m with touchMode := tm, twoFinger := tf } := by
  unfold endTouch
  split <;> exact ⟨_, _, rfl⟩

/-- Whether a release is a click depends on four things only (R174). -/
theorem isClick_iff (cfg : ConfigRegs) (now : Clk) (m : MotionState) :
    isClick cfg now m = true ↔ m.prevTapClick = true ∧ cfg.clicking = true ∧
      (now.toNat : Int) - (m.lastTapTime.toNat : Int) < (cfg.maxTapTime.toNat : Int) := by
  simp [isClick, underTapTime, and_assoc]

/-! ### Scaling -/

/-- The factor's denominator is positive. -/
theorem accelFactor_den_pos (raw : BitVec 32) : 0 < (accelFactor raw).2 := by
  unfold accelFactor
  split <;> simp [Config.accelFloorInv, Config.accelUnit]

/-- The factor's numerator is positive (R206). -/
theorem accelFactor_num_pos (raw : BitVec 32) : 0 < (accelFactor raw).1 := by
  unfold accelFactor
  split
  · simp
  · rename_i h
    simp [Config.accelFloorInv, Config.accelUnit] at h ⊢
    omega

end Sys2Proof.Machine
end

