-- ==== Sys2Proof/Laws/Codec.lean ====
section
/-! SUPPORT. The byte order of a port word, and the start-byte classes. -/

namespace Sys2Proof

/-- The bytes of a number, read back. -/
theorem leNat_leBytes (k n : Nat) : leNat (leBytes k n) = n % 256 ^ k := by
  induction k generalizing n with
  | zero => simp [leBytes, leNat, Nat.mod_one]
  | succ k ih =>
    have h : (BitVec.ofNat 8 n).toNat = n % 256 := by simp
    simp only [leBytes, leNat, ih, h]
    rw [pow_succ, mul_comm (256 ^ k) 256, Nat.mod_mul]

/-- A number gives as many bytes as were asked for. -/
@[simp] theorem leBytes_length (k n : Nat) : (leBytes k n).length = k := by
  induction k generalizing n with
  | zero => rfl
  | succ k ih => simp [leBytes, ih]

/-- A 64-bit value through its eight bytes. -/
theorem ofNat_leNat_leBytes (v : BitVec 64) : BitVec.ofNat 64 (leNat (leBytes 8 v.toNat)) = v := by
  rw [leNat_leBytes]
  apply BitVec.eq_of_toNat_eq
  simpa using v.isLt

/-- A word of `CFG` decodes to the operation of its register number. -/
theorem decodeCfg_cfgWord (r : BitVec 4) (v : BitVec 64) : decodeCfg (cfgWord r v).bytes = .ok (cfgInstr r v) := by
  have hr : (r.setWidth 8).toNat < 16 := by
    have := r.isLt
    simp only [BitVec.toNat_setWidth]
    omega
  have hs : (r.setWidth 8).setWidth 4 = r := by
    apply BitVec.eq_of_toNat_eq
    have := r.isLt
    simp only [BitVec.toNat_setWidth]
    omega
  simp only [decodeCfg, cfgWord, leBytes_length, ne_eq, not_true_eq_false, if_false, if_pos hr, hs,
    ofNat_leNat_leBytes]

/-- The words of a script's operations in two parts: the second part's numbers go on from the first's. -/
theorem opWords_append (n : Nat) (os ps : List ScriptOp) :
    opWords n (os ++ ps) = opWords n os ++ opWords (n + os.length) ps := by
  induction os generalizing n with
  | nil => rfl
  | cons o os ih =>
    simp only [List.cons_append, opWords, ih, List.length_cons]
    rw [Nat.add_right_comm, Nat.add_assoc]

/-- One word for each operation of a script. -/
@[simp] theorem opWords_length (n : Nat) (os : List ScriptOp) : (opWords n os).length = os.length := by
  induction os generalizing n with
  | nil => rfl
  | cons o os ih => simp [opWords, ih]

/-- The class of a byte, read: the acknowledgment code first (R71). -/
theorem startClass_cases (par : Params) (b : Byte) :
    (b = par.ackCode ∧ startClass par b = .ack) ∨
    (b ≠ par.ackCode ∧ b &&& par.hdrMask = par.hdrValue ∧ startClass par b = .ok) ∨
    (b ≠ par.ackCode ∧ b &&& par.hdrMask ≠ par.hdrValue ∧ startClass par b = .badhdr) := by
  unfold startClass
  by_cases h : b = par.ackCode
  · exact .inl ⟨h, if_pos h⟩
  · by_cases h' : b &&& par.hdrMask = par.hdrValue
    · exact .inr (.inl ⟨h, h', by rw [if_neg h, if_pos h']⟩)
    · exact .inr (.inr ⟨h, h', by rw [if_neg h, if_neg h']⟩)

end Sys2Proof
end

