-- ==== Sys2Proof/Laws/Memory.lean ====
section
/-! SUPPORT. The packet buffer: a read after a write, and the canonical form kept by every operation. -/

namespace Sys2Proof.Machine

/-- A read after a write to the same address gives the byte written. -/
@[simp] theorem Memory.get?_write_same (m : Memory) (a : Nat) (b : Byte) : (m.write a b).get? a = some b := by
  induction m with
  | nil => simp [Memory.write, Memory.get?]
  | cons c m ih =>
    simp only [Memory.write]
    split
    · simp [Memory.get?]
    · split
      · simp [Memory.get?]
      · rename_i h
        simp only [Memory.get?]
        rw [if_neg (fun e => h e.symm), ih]

/-- A write leaves every other address alone. -/
theorem Memory.get?_write_other (m : Memory) (a c : Nat) (b : Byte) (h : c ≠ a) : (m.write a b).get? c = m.get? c := by
  induction m with
  | nil => simp [Memory.write, Memory.get?, Ne.symm h]
  | cons d m ih =>
    simp only [Memory.write]
    split
    · simp [Memory.get?, Ne.symm h]
    · split
      · rename_i e
        simp [Memory.get?, Ne.symm h, ← e]
      · simp only [Memory.get?, ih]

/-- One byte read after a write. -/
theorem Memory.read_write (m : Memory) (a c : Nat) (b : Byte) :
    (m.write a b).read c = if c = a then b else m.read c := by
  unfold Memory.read
  split
  · rename_i h; simp [h]
  · rename_i h; rw [Memory.get?_write_other m a c b h]

/-- The addresses of a written buffer: the one written, and the old ones. -/
theorem Memory.mem_write {m : Memory} {a : Nat} {b : Byte} {c : Host.Cell} (h : c ∈ m.write a b) : c = (a, b) ∨ c ∈ m := by
  induction m with
  | nil => simpa [Memory.write] using h
  | cons d m ih =>
    simp only [Memory.write] at h
    split at h
    · simpa using h
    · split at h
      · rcases List.mem_cons.1 h with h | h
        · exact .inl h
        · exact .inr (List.mem_cons_of_mem _ h)
      · rcases List.mem_cons.1 h with h | h
        · exact .inr (h ▸ List.mem_cons_self)
        · exact (ih h).imp_right (List.mem_cons_of_mem _)

/-- The canonical form, read. -/
theorem Memory.wf_iff (m : Memory) :
    m.wf = true ↔ (∀ c ∈ m, c.1 < Config.bufCap) ∧ m.Pairwise fun c d => c.1 < d.1 := by
  simp [Memory.wf]

/-- A write below the capacity keeps the canonical form. -/
theorem Memory.wf_write {m : Memory} (h : m.wf = true) {a : Nat} (ha : a < Config.bufCap) (b : Byte) :
    (m.write a b).wf = true := by
  rw [Memory.wf_iff] at h ⊢
  obtain ⟨hb, hs⟩ := h
  refine ⟨fun c hc => ?_, ?_⟩
  · rcases Memory.mem_write hc with rfl | hc
    · exact ha
    · exact hb c hc
  · clear hb ha
    induction m with
    | nil => simp [Memory.write]
    | cons d m ih =>
      obtain ⟨hd, hm⟩ := List.pairwise_cons.1 hs
      simp only [Memory.write]
      split
      · rename_i hlt
        refine List.pairwise_cons.2 ⟨fun c hc => ?_, hs⟩
        rcases List.mem_cons.1 hc with rfl | hc
        · exact hlt
        · exact lt_trans hlt (hd c hc)
      · split
        · rename_i heq
          exact List.pairwise_cons.2 ⟨fun c hc => heq ▸ hd c hc, hm⟩
        · rename_i hge hne
          refine List.pairwise_cons.2 ⟨fun c hc => ?_, ih hm⟩
          rcases Memory.mem_write hc with rfl | hc
          · exact lt_of_le_of_ne (not_lt.1 hge) (Ne.symm hne)
          · exact hd c hc

/-- Bytes put at the addresses from `a` on keep the canonical form while they fit. -/
theorem Memory.wf_put (bytes : List Byte) {m : Memory} (h : m.wf = true) (a : Nat) (ha : a + bytes.length ≤ Config.bufCap) :
    (bytes.foldl (fun (acc : Memory × Nat) b => (acc.1.write acc.2 b, acc.2 + 1)) (m, a)).1.wf = true := by
  induction bytes generalizing m a with
  | nil => exact h
  | cons b bs ih =>
    simp only [List.length_cons] at ha
    exact ih (Memory.wf_write h (by omega) b) (a + 1) (by omega)

/-- A packet's first bytes, put in the buffer, keep its canonical form. -/
theorem State.wf_withBuffered {s : State} (h : s.buf.wf = true) {bytes : List Byte} (hb : bytes.length ≤ Config.bufCap) :
    (s.withBuffered bytes).buf.wf = true :=
  Memory.wf_put bytes h 0 (by omega)

/-- An accepted byte's append keeps the canonical form. -/
theorem State.wf_append {s : State} (h : s.buf.wf = true) (b : Byte) :
    (s.append b).buf.wf = true :=
  Memory.wf_write h s.count.isLt b

/-- The packet buffer after reset is canonical. -/
theorem Memory.wf_reset : State.reset.buf.wf = true := by decide

end Sys2Proof.Machine
end

