-- ==== Sys2Proof/Laws/PerInstr.lean ====
section
/-! SUPPORT. The family `WordDecodes`: what an operation's port word decodes to, one lemma per constructor. -/

namespace Sys2Proof.Laws

/-- A well-formed operation that has a port word decodes from it: a start-byte class where the framer is SEEKING,
`FEED` where it is not, every other operation in either state. -/
def WordDecodes.Statement (i : Instr) : Prop :=
  ∀ (par : Params) (seeking : Bool) (w : PortWord), i.wf par = true → encode i = some w →
    (i.isStartClass = true → seeking = true) → (∀ b t, i = .feed b t → seeking = false) →
    decode par seeking w = .ok i

theorem WordDecodes.reset : Statement .reset := by
  intro par k w _ he _ _
  cases he
  rfl

theorem WordDecodes.feed (b : Byte) (t : Clk) : Statement (.feed b t) := by
  intro par k w _ he _ hk
  cases he
  simp [decode, decodeByteIn, byteWord, hk b t rfl]

theorem WordDecodes.startAck (b : Byte) : Statement (.startAck b) := by
  intro par k w hw he hk _
  cases he
  have hb : b = par.ackCode := by simpa [Instr.wf] using hw
  simp [decode, decodeByteIn, byteWord, hk rfl, startInstr, startClass, hb]

theorem WordDecodes.startBadhdr (b : Byte) : Statement (.startBadhdr b) := by
  intro par k w hw he hk _
  cases he
  have hb : b ≠ par.ackCode ∧ b &&& par.hdrMask ≠ par.hdrValue := by simpa [Instr.wf] using hw
  simp [decode, decodeByteIn, byteWord, hk rfl, startInstr, startClass, hb.1, hb.2]

theorem WordDecodes.startOk (b : Byte) : Statement (.startOk b) := by
  intro par k w hw he hk _
  cases he
  have hb : b ≠ par.ackCode ∧ b &&& par.hdrMask = par.hdrValue := by simpa [Instr.wf] using hw
  simp [decode, decodeByteIn, byteWord, hk rfl, startInstr, startClass, hb.1, hb.2]

theorem WordDecodes.modew (m : PktMode) : Statement (.modew m) := by
  intro par k w _ he _ _
  cases he
  cases m <;> rfl

theorem WordDecodes.cfgwClicking (v : BitVec 64) : Statement (.cfgwClicking v) := by
  intro par k w _ he _ _
  cases he
  exact decodeCfg_cfgWord 1 v

theorem WordDecodes.cfgwDragging (v : BitVec 64) : Statement (.cfgwDragging v) := by
  intro par k w _ he _ _
  cases he
  exact decodeCfg_cfgWord 2 v

theorem WordDecodes.cfgwDraglock (v : BitVec 64) : Statement (.cfgwDraglock v) := by
  intro par k w _ he _ _
  cases he
  exact decodeCfg_cfgWord 3 v

theorem WordDecodes.cfgwHscrollEn (v : BitVec 64) : Statement (.cfgwHscrollEn v) := by
  intro par k w _ he _ _
  cases he
  exact decodeCfg_cfgWord 4 v

theorem WordDecodes.cfgwVscrollEn (v : BitVec 64) : Statement (.cfgwVscrollEn v) := by
  intro par k w _ he _ _
  cases he
  exact decodeCfg_cfgWord 5 v

theorem WordDecodes.cfgwScrollAccelRaw (v : BitVec 64) : Statement (.cfgwScrollAccelRaw v) := by
  intro par k w _ he _ _
  cases he
  exact decodeCfg_cfgWord 6 v

theorem WordDecodes.cfgwPointerAccelRaw (v : BitVec 64) : Statement (.cfgwPointerAccelRaw v) := by
  intro par k w _ he _ _
  cases he
  exact decodeCfg_cfgWord 7 v

theorem WordDecodes.cfgwMaxTapTime (v : BitVec 64) : Statement (.cfgwMaxTapTime v) := by
  intro par k w _ he _ _
  cases he
  exact decodeCfg_cfgWord 8 v

theorem WordDecodes.cfgwIgnored (r : BitVec 4) (v : BitVec 64) : Statement (.cfgwIgnored r v) := by
  intro par k w hw he _ _
  cases he
  have hr : r = 0 ∨ 8 < r.toNat := by simpa [Instr.wf] using hw
  refine (decodeCfg_cfgWord r v).trans ?_
  rcases hr with rfl | hr
  · rfl
  · unfold cfgInstr
    split <;> first | rfl | omega

theorem WordDecodes.pktRel4 (p : Pkt4) (now : Clk) : Statement (.pktRel4 p now) := by
  intro par k w _ he _ _
  cases he

theorem WordDecodes.pktAbs6 (p : Pkt6) (now : Clk) : Statement (.pktAbs6 p now) := by
  intro par k w _ he _ _
  cases he

theorem WordDecodes.pktRel3 (p : Pkt3) (now : Clk) : Statement (.pktRel3 p now) := by
  intro par k w _ he _ _
  cases he

theorem WordDecodes.decAbs (p : Pkt6) : Statement (.decAbs p) := by
  intro par k w _ he _ _
  cases he

theorem WordDecodes.decRel3 (p : Pkt3) (now : Clk) : Statement (.decRel3 p now) := by
  intro par k w _ he _ _
  cases he

theorem WordDecodes.decRel4 (p : Pkt4) (now : Clk) : Statement (.decRel4 p now) := by
  intro par k w _ he _ _
  cases he

theorem WordDecodes.gRegion (x : XCoord) (y : YCoord) : Statement (.gRegion x y) := by
  intro par k w _ he _ _
  cases he

theorem WordDecodes.gTfentry (x : XCoord) (y : YCoord) (z : Byte) : Statement (.gTfentry x y z) := by
  intro par k w _ he _ _
  cases he

theorem WordDecodes.gWillscroll (z : Byte) (region : Region) : Statement (.gWillscroll z region) := by
  intro par k w _ he _ _
  cases he

theorem WordDecodes.gTfscroll (x : XCoord) (y : YCoord) (now : Clk) : Statement (.gTfscroll x y now) := by
  intro par k w _ he _ _
  cases he

theorem WordDecodes.gEdgescroll (x : XCoord) (y : YCoord) (region : Region) (now : Clk) : Statement (.gEdgescroll x y region now) := by
  intro par k w _ he _ _
  cases he

theorem WordDecodes.gMove (x : XCoord) (y : YCoord) (tap : Bool) (buttons : Buttons) (now : Clk) : Statement (.gMove x y tap buttons now) := by
  intro par k w _ he _ _
  cases he

theorem WordDecodes.gTapclick (tap : Bool) (tapClick : Bool) (buttons : Buttons) (now : Clk) : Statement (.gTapclick tap tapClick buttons now) := by
  intro par k w _ he _ _
  cases he

theorem WordDecodes.gCommit (x : XCoord) (y : YCoord) (z : Byte) (region : Region) (tap : Bool) (tapClick : Bool) (buttons : Buttons) : Statement (.gCommit x y z region tap tapClick buttons) := by
  intro par k w _ he _ _
  cases he

theorem WordDecodes.timerExpire : Statement (.timerExpire) := by
  intro par k w _ he _ _
  cases he

theorem WordDecodes.evMotion (dx : BitVec 32) (dy : BitVec 32) (buttons : Buttons) (ts : Clk) : Statement (.evMotion dx dy buttons ts) := by
  intro par k w _ he _ _
  cases he

theorem WordDecodes.evScroll (v : BitVec 32) (h : BitVec 32) (ts : Clk) : Statement (.evScroll v h ts) := by
  intro par k w _ he _ _
  cases he

end Sys2Proof.Laws
end

