-- ==== Sys2Proof/Laws/State.lean ====
section
/-! SUPPORT. One lemma per field per update of the state, so that no later proof unfolds a record update. -/

namespace Sys2Proof.Machine

/-! ### `State.bufWrite` -/

@[simp] theorem State.bufWrite_buf (s : State) (a : Nat) (b : Byte) : (s.bufWrite a b).buf = s.buf.write a b := rfl
@[simp] theorem State.bufWrite_count (s : State) (a : Nat) (b : Byte) : (s.bufWrite a b).count = s.count := rfl
@[simp] theorem State.bufWrite_mot (s : State) (a : Nat) (b : Byte) : (s.bufWrite a b).mot = s.mot := rfl
@[simp] theorem State.bufWrite_cfg (s : State) (a : Nat) (b : Byte) : (s.bufWrite a b).cfg = s.cfg := rfl
@[simp] theorem State.bufWrite_par (s : State) (a : Nat) (b : Byte) : (s.bufWrite a b).par = s.par := rfl
@[simp] theorem State.bufWrite_res (s : State) (a : Nat) (b : Byte) : (s.bufWrite a b).res = s.res := rfl
@[simp] theorem State.bufWrite_input (s : State) (a : Nat) (b : Byte) : (s.bufWrite a b).input = s.input := rfl
@[simp] theorem State.bufWrite_out (s : State) (a : Nat) (b : Byte) : (s.bufWrite a b).out = s.out := rfl

/-! ### `State.setCount` -/

@[simp] theorem State.setCount_buf (s : State) (n : Fin 6) : (s.setCount n).buf = s.buf := rfl
@[simp] theorem State.setCount_count (s : State) (n : Fin 6) : (s.setCount n).count = n := rfl
@[simp] theorem State.setCount_mot (s : State) (n : Fin 6) : (s.setCount n).mot = s.mot := rfl
@[simp] theorem State.setCount_cfg (s : State) (n : Fin 6) : (s.setCount n).cfg = s.cfg := rfl
@[simp] theorem State.setCount_par (s : State) (n : Fin 6) : (s.setCount n).par = s.par := rfl
@[simp] theorem State.setCount_res (s : State) (n : Fin 6) : (s.setCount n).res = s.res := rfl
@[simp] theorem State.setCount_input (s : State) (n : Fin 6) : (s.setCount n).input = s.input := rfl
@[simp] theorem State.setCount_out (s : State) (n : Fin 6) : (s.setCount n).out = s.out := rfl

/-! ### `State.setMot` -/

@[simp] theorem State.setMot_buf (s : State) (m : MotionState) : (s.setMot m).buf = s.buf := rfl
@[simp] theorem State.setMot_count (s : State) (m : MotionState) : (s.setMot m).count = s.count := rfl
@[simp] theorem State.setMot_mot (s : State) (m : MotionState) : (s.setMot m).mot = m := rfl
@[simp] theorem State.setMot_cfg (s : State) (m : MotionState) : (s.setMot m).cfg = s.cfg := rfl
@[simp] theorem State.setMot_par (s : State) (m : MotionState) : (s.setMot m).par = s.par := rfl
@[simp] theorem State.setMot_res (s : State) (m : MotionState) : (s.setMot m).res = s.res := rfl
@[simp] theorem State.setMot_input (s : State) (m : MotionState) : (s.setMot m).input = s.input := rfl
@[simp] theorem State.setMot_out (s : State) (m : MotionState) : (s.setMot m).out = s.out := rfl

/-! ### `State.setCfg` -/

@[simp] theorem State.setCfg_buf (s : State) (c : ConfigRegs) : (s.setCfg c).buf = s.buf := rfl
@[simp] theorem State.setCfg_count (s : State) (c : ConfigRegs) : (s.setCfg c).count = s.count := rfl
@[simp] theorem State.setCfg_mot (s : State) (c : ConfigRegs) : (s.setCfg c).mot = s.mot := rfl
@[simp] theorem State.setCfg_cfg (s : State) (c : ConfigRegs) : (s.setCfg c).cfg = c := rfl
@[simp] theorem State.setCfg_par (s : State) (c : ConfigRegs) : (s.setCfg c).par = s.par := rfl
@[simp] theorem State.setCfg_res (s : State) (c : ConfigRegs) : (s.setCfg c).res = s.res := rfl
@[simp] theorem State.setCfg_input (s : State) (c : ConfigRegs) : (s.setCfg c).input = s.input := rfl
@[simp] theorem State.setCfg_out (s : State) (c : ConfigRegs) : (s.setCfg c).out = s.out := rfl

/-! ### `State.setRes` -/

@[simp] theorem State.setRes_buf (s : State) (r : Results) : (s.setRes r).buf = s.buf := rfl
@[simp] theorem State.setRes_count (s : State) (r : Results) : (s.setRes r).count = s.count := rfl
@[simp] theorem State.setRes_mot (s : State) (r : Results) : (s.setRes r).mot = s.mot := rfl
@[simp] theorem State.setRes_cfg (s : State) (r : Results) : (s.setRes r).cfg = s.cfg := rfl
@[simp] theorem State.setRes_par (s : State) (r : Results) : (s.setRes r).par = s.par := rfl
@[simp] theorem State.setRes_res (s : State) (r : Results) : (s.setRes r).res = r := rfl
@[simp] theorem State.setRes_input (s : State) (r : Results) : (s.setRes r).input = s.input := rfl
@[simp] theorem State.setRes_out (s : State) (r : Results) : (s.setRes r).out = s.out := rfl

/-! ### `State.emit` -/

@[simp] theorem State.emit_buf (s : State) (es : List Event) : (s.emit es).buf = s.buf := rfl
@[simp] theorem State.emit_count (s : State) (es : List Event) : (s.emit es).count = s.count := rfl
@[simp] theorem State.emit_mot (s : State) (es : List Event) : (s.emit es).mot = s.mot := rfl
@[simp] theorem State.emit_cfg (s : State) (es : List Event) : (s.emit es).cfg = s.cfg := rfl
@[simp] theorem State.emit_par (s : State) (es : List Event) : (s.emit es).par = s.par := rfl
@[simp] theorem State.emit_res (s : State) (es : List Event) : (s.emit es).res = s.res := rfl
@[simp] theorem State.emit_input (s : State) (es : List Event) : (s.emit es).input = s.input := rfl
@[simp] theorem State.emit_out (s : State) (es : List Event) : (s.emit es).out = s.out ++ es := rfl

/-! ### `State.pushWord` -/

@[simp] theorem State.pushWord_buf (s : State) (w : PortWord) : (s.pushWord w).buf = s.buf := rfl
@[simp] theorem State.pushWord_count (s : State) (w : PortWord) : (s.pushWord w).count = s.count := rfl
@[simp] theorem State.pushWord_mot (s : State) (w : PortWord) : (s.pushWord w).mot = s.mot := rfl
@[simp] theorem State.pushWord_cfg (s : State) (w : PortWord) : (s.pushWord w).cfg = s.cfg := rfl
@[simp] theorem State.pushWord_par (s : State) (w : PortWord) : (s.pushWord w).par = s.par := rfl
@[simp] theorem State.pushWord_res (s : State) (w : PortWord) : (s.pushWord w).res = s.res := rfl
@[simp] theorem State.pushWord_input (s : State) (w : PortWord) : (s.pushWord w).input = w :: s.input := rfl
@[simp] theorem State.pushWord_out (s : State) (w : PortWord) : (s.pushWord w).out = s.out := rfl

/-! ### `State.load` -/

@[simp] theorem State.load_buf (s : State) (l : List ScriptLine) : (s.load l).buf = s.buf := rfl
@[simp] theorem State.load_count (s : State) (l : List ScriptLine) : (s.load l).count = s.count := rfl
@[simp] theorem State.load_mot (s : State) (l : List ScriptLine) : (s.load l).mot = s.mot := rfl
@[simp] theorem State.load_cfg (s : State) (l : List ScriptLine) : (s.load l).cfg = s.cfg := rfl
@[simp] theorem State.load_par (s : State) (l : List ScriptLine) : (s.load l).par = s.par := rfl
@[simp] theorem State.load_res (s : State) (l : List ScriptLine) : (s.load l).res = s.res := rfl
@[simp] theorem State.load_input (s : State) (l : List ScriptLine) : (s.load l).input = s.input ++ scriptWords l := rfl
@[simp] theorem State.load_out (s : State) (l : List ScriptLine) : (s.load l).out = s.out := rfl

/-! ### `State.applyStage`: a stage writes MotionState and emits, and nothing else -/

@[simp] theorem State.applyStage_buf (s : State) (r : MotionState × List Event) : (s.applyStage r).buf = s.buf := rfl
@[simp] theorem State.applyStage_count (s : State) (r : MotionState × List Event) : (s.applyStage r).count = s.count := rfl
@[simp] theorem State.applyStage_mot (s : State) (r : MotionState × List Event) : (s.applyStage r).mot = r.1 := rfl
@[simp] theorem State.applyStage_cfg (s : State) (r : MotionState × List Event) : (s.applyStage r).cfg = s.cfg := rfl
@[simp] theorem State.applyStage_par (s : State) (r : MotionState × List Event) : (s.applyStage r).par = s.par := rfl
@[simp] theorem State.applyStage_res (s : State) (r : MotionState × List Event) : (s.applyStage r).res = s.res := rfl
@[simp] theorem State.applyStage_input (s : State) (r : MotionState × List Event) : (s.applyStage r).input = s.input := rfl
@[simp] theorem State.applyStage_out (s : State) (r : MotionState × List Event) : (s.applyStage r).out = s.out ++ r.2 := rfl

/-! ### The byte appended, the dispatches and the button-up -/

@[simp] theorem State.append_buf (s : State) (b : Byte) : (s.append b).buf = s.buf.write s.count.val b := rfl
@[simp] theorem State.append_count (s : State) (b : Byte) : (s.append b).count = s.count := rfl
@[simp] theorem State.append_mot (s : State) (b : Byte) : (s.append b).mot = s.mot := rfl
@[simp] theorem State.append_cfg (s : State) (b : Byte) : (s.append b).cfg = s.cfg := rfl
@[simp] theorem State.append_par (s : State) (b : Byte) : (s.append b).par = s.par := rfl
@[simp] theorem State.append_res (s : State) (b : Byte) : (s.append b).res = s.res := rfl
@[simp] theorem State.append_input (s : State) (b : Byte) : (s.append b).input = s.input := rfl
@[simp] theorem State.append_out (s : State) (b : Byte) : (s.append b).out = s.out := rfl
@[simp] theorem State.dispatchRel4_buf (s : State) (p : Pkt4) (now : Clk) : (s.dispatchRel4 p now).buf = s.buf := rfl
@[simp] theorem State.dispatchRel4_count (s : State) (p : Pkt4) (now : Clk) : (s.dispatchRel4 p now).count = s.count := rfl
@[simp] theorem State.dispatchRel4_mot (s : State) (p : Pkt4) (now : Clk) : (s.dispatchRel4 p now).mot = s.mot := rfl
@[simp] theorem State.dispatchRel4_cfg (s : State) (p : Pkt4) (now : Clk) : (s.dispatchRel4 p now).cfg = s.cfg := rfl
@[simp] theorem State.dispatchRel4_par (s : State) (p : Pkt4) (now : Clk) : (s.dispatchRel4 p now).par = s.par := rfl
@[simp] theorem State.dispatchRel4_res (s : State) (p : Pkt4) (now : Clk) : (s.dispatchRel4 p now).res = s.res := rfl
@[simp] theorem State.dispatchRel4_input (s : State) (p : Pkt4) (now : Clk) : (s.dispatchRel4 p now).input = s.input := rfl
@[simp] theorem State.dispatchRel4_out (s : State) (p : Pkt4) (now : Clk) : (s.dispatchRel4 p now).out = s.out ++ rel4Events p now := rfl
@[simp] theorem State.dispatchAbs_buf (s : State) (p : Pkt6) (now : Clk) :
    (s.dispatchAbs p now).buf = s.buf := rfl
@[simp] theorem State.dispatchAbs_count (s : State) (p : Pkt6) (now : Clk) :
    (s.dispatchAbs p now).count = s.count := rfl
@[simp] theorem State.dispatchAbs_mot (s : State) (p : Pkt6) (now : Clk) :
    (s.dispatchAbs p now).mot = (classify s.par s.cfg (decodeAbs p) now s.mot).1 := rfl
@[simp] theorem State.dispatchAbs_cfg (s : State) (p : Pkt6) (now : Clk) :
    (s.dispatchAbs p now).cfg = s.cfg := rfl
@[simp] theorem State.dispatchAbs_par (s : State) (p : Pkt6) (now : Clk) :
    (s.dispatchAbs p now).par = s.par := rfl
@[simp] theorem State.dispatchAbs_res (s : State) (p : Pkt6) (now : Clk) :
    (s.dispatchAbs p now).res = s.res := rfl
@[simp] theorem State.dispatchAbs_input (s : State) (p : Pkt6) (now : Clk) :
    (s.dispatchAbs p now).input = s.input := rfl
@[simp] theorem State.dispatchAbs_out (s : State) (p : Pkt6) (now : Clk) :
    (s.dispatchAbs p now).out = s.out ++ (classify s.par s.cfg (decodeAbs p) now s.mot).2 := rfl
@[simp] theorem State.expire_buf (s : State) : s.expire.buf = s.buf := rfl
@[simp] theorem State.expire_count (s : State) : s.expire.count = s.count := rfl
@[simp] theorem State.expire_mot (s : State) : s.expire.mot = { s.mot with tapBtn := false, tapArmed := false } := rfl
@[simp] theorem State.expire_cfg (s : State) : s.expire.cfg = s.cfg := rfl
@[simp] theorem State.expire_par (s : State) : s.expire.par = s.par := rfl
@[simp] theorem State.expire_res (s : State) : s.expire.res = s.res := rfl
@[simp] theorem State.expire_input (s : State) : s.expire.input = s.input := rfl
@[simp] theorem State.expire_out (s : State) : s.expire.out = s.out ++ buttonUpEvents s.mot := rfl

/-! ### The button-up performed where it is due -/

@[simp] theorem State.expireIfDue_buf (s : State) (now : Clk) : (s.expireIfDue now).buf = s.buf := by
  unfold State.expireIfDue; split <;> rfl
@[simp] theorem State.expireIfDue_count (s : State) (now : Clk) : (s.expireIfDue now).count = s.count := by
  unfold State.expireIfDue; split <;> rfl
@[simp] theorem State.expireIfDue_cfg (s : State) (now : Clk) : (s.expireIfDue now).cfg = s.cfg := by
  unfold State.expireIfDue; split <;> rfl
@[simp] theorem State.expireIfDue_par (s : State) (now : Clk) : (s.expireIfDue now).par = s.par := by
  unfold State.expireIfDue; split <;> rfl
@[simp] theorem State.expireIfDue_res (s : State) (now : Clk) : (s.expireIfDue now).res = s.res := by
  unfold State.expireIfDue; split <;> rfl
@[simp] theorem State.expireIfDue_input (s : State) (now : Clk) : (s.expireIfDue now).input = s.input := by
  unfold State.expireIfDue; split <;> rfl

/-- When the button-up is due (R108). -/
theorem buttonUpDue_iff (now : Clk) (m : MotionState) :
    buttonUpDue now m = true ↔ m.tapArmed = true ∧ m.tapDeadline ≤ now.toNat := by
  simp [buttonUpDue]

/-- Everything the button-up before a dispatch can do: it takes place, or nothing happens. -/
theorem State.expireIfDue_cases (s : State) (now : Clk) :
    (buttonUpDue now s.mot = true ∧ s.expireIfDue now = s.expire) ∨
    (buttonUpDue now s.mot = false ∧ s.expireIfDue now = s) := by
  unfold State.expireIfDue
  cases h : buttonUpDue now s.mot <;> simp

/-- Where no button-up is scheduled, none takes place. -/
theorem State.expireIfDue_unarmed (s : State) (now : Clk) (h : s.mot.tapArmed = false) : s.expireIfDue now = s := by
  simp [State.expireIfDue, buttonUpDue, h]

/-- A button-up that is due takes place. -/
theorem State.expireIfDue_of_due (s : State) (now : Clk) (h : s.mot.tapArmed = true ∧ s.mot.tapDeadline ≤ now.toNat) :
    s.expireIfDue now = s.expire := if_pos ((buttonUpDue_iff now s.mot).2 h)

/-- A button-up that is not due does not take place. -/
theorem State.expireIfDue_of_not_due (s : State) (now : Clk)
    (h : ¬(s.mot.tapArmed = true ∧ s.mot.tapDeadline ≤ now.toNat)) : s.expireIfDue now = s :=
  if_neg (fun e => h ((buttonUpDue_iff now s.mot).1 e))

/-- The framer is SEEKING exactly while `count = 0`. -/
theorem State.seeking_iff (s : State) : s.seeking = true ↔ s.count = 0 := by
  simp [State.seeking]

end Sys2Proof.Machine
end

