-- ==== Sys2Proof/Laws/Step.lean ====
section
/-! SUPPORT. What the shared operations and one step can do, said once. -/

namespace Sys2Proof.Machine

/-- A discard changes nothing. -/
@[simp] theorem discard_eq (r : DiscardReason) (s : State) : discard r s = .next s := rfl

/-- A byte is discarded exactly where it is in no `START.OK` class. -/
theorem discardReason_eq_none (par : Params) (b : Byte) : discardReason par b = none ↔ startClass par b = .ok := by
  unfold discardReason
  cases startClass par b <;> simp

/-- An accepted byte, read: the three cases of the length test (R103). -/
theorem State.accept_cases (s : State) (b : Byte) (t : Clk) :
    (s.count.val = 3 ∧ s.cfg.pktMode = .rel4 ∧
      s.accept b t = (((s.append b).expireIfDue t).dispatchRel4 (s.append b).buf.pkt4 t).setCount 0) ∨
    (s.count.val = 5 ∧
      s.accept b t = (((s.append b).expireIfDue t).dispatchAbs (s.append b).buf.pkt6 t).setCount 0) ∨
    (s.count.val ≠ 5 ∧ ¬(s.count.val = 3 ∧ s.cfg.pktMode = .rel4) ∧
      s.accept b t = (s.append b).setCount (Fin.ofNat 6 (s.count.val + 1))) := by
  have h3 : (s.count.val + 1 = Config.lenRel ∧ s.cfg.pktMode = .rel4) ↔ (s.count.val = 3 ∧ s.cfg.pktMode = .rel4) := by
    simp [Config.lenRel]
  have h5 : s.count.val + 1 = Config.lenAbs ↔ s.count.val = 5 := by simp [Config.lenAbs]
  simp only [State.accept, h3, h5]
  by_cases h : s.count.val = 3 ∧ s.cfg.pktMode = .rel4
  · exact .inl ⟨h.1, h.2, if_pos h⟩
  · by_cases h' : s.count.val = 5
    · exact .inr (.inl ⟨h', by rw [if_neg h, if_pos h']⟩)
    · exact .inr (.inr ⟨h', h, by rw [if_neg h, if_neg h']⟩)

/-- What an accepted byte leaves alone, and the one byte it writes (R53); events are only appended (R235). -/
theorem State.accept_frame (s : State) (b : Byte) (t : Clk) :
    (s.accept b t).buf = s.buf.write s.count.val b ∧ (s.accept b t).cfg = s.cfg ∧ (s.accept b t).par = s.par ∧
    (s.accept b t).res = s.res ∧ (s.accept b t).input = s.input ∧ ∃ es, (s.accept b t).out = s.out ++ es := by
  rcases State.accept_cases s b t with ⟨-, -, h⟩ | ⟨-, h⟩ | ⟨-, -, h⟩ <;> rw [h]
  · refine ⟨by simp, by simp, by simp, by simp, by simp, ?_⟩
    rcases State.expireIfDue_cases (s.append b) t with ⟨-, h⟩ | ⟨-, h⟩ <;> rw [h] <;> simp
  · refine ⟨by simp, by simp, by simp, by simp, by simp, ?_⟩
    rcases State.expireIfDue_cases (s.append b) t with ⟨-, h⟩ | ⟨-, h⟩ <;> rw [h] <;> simp
  · simp

/-- `FEED`, read: a discard, or an accepted byte (R100). -/
theorem execFeed_cases (b : Byte) (t : Clk) (s : State) :
    (s.count = 0 ∧ startClass s.par b ≠ .ok ∧ execFeed b t s = .next s) ∨
    ((s.count = 0 → startClass s.par b = .ok) ∧ execFeed b t s = .next (s.accept b t)) := by
  unfold execFeed
  by_cases hc : s.count = 0
  · rw [if_pos ((State.seeking_iff s).2 hc)]
    cases hd : discardReason s.par b with
    | none => exact .inr ⟨fun _ => (discardReason_eq_none _ _).1 hd, rfl⟩
    | some r => exact .inl ⟨hc, fun h => absurd ((discardReason_eq_none _ _).2 h) (by simp [hd]), rfl⟩
  · rw [if_neg (fun h => hc ((State.seeking_iff s).1 h))]
    exact .inr ⟨fun h => absurd h hc, rfl⟩

/-- The button-up on its own, read (R212). -/
theorem execTimerExpire_cases (s : State) :
    (s.mot.tapArmed = true ∧ execTimerExpire s = .next s.expire) ∨
    (s.mot.tapArmed = false ∧ execTimerExpire s = .next s) := by
  unfold execTimerExpire
  cases s.mot.tapArmed <;> simp

/-- `START.OK`, read (R102, log entry 8). -/
theorem execStartOk_cases (b : Byte) (s : State) :
    (s.count = 0 ∧ startClass s.par b = .ok ∧ execStartOk b s = .next ((s.append b).setCount 1)) ∨
    (execStartOk b s = .next s) := by
  unfold execStartOk
  by_cases h : s.seeking = true ∧ startClass s.par b = .ok
  · exact .inl ⟨(State.seeking_iff s).1 h.1, h.2, by simp [h.1, h.2]⟩
  · right
    rw [if_neg]
    simpa using h

/-- One step that gives a next state: a decoded operation ran, or no operation was pending and the timer had its
chance. -/
theorem step_cases {s t : State} (h : step s = .next t) :
    (s.input = [] ∧ execTimerExpire s = .next t) ∨
    (∃ w rest i, s.input = w :: rest ∧ s.decodeWord w = .ok i ∧ exec i { s with input := rest } = .next t) := by
  unfold step at h
  split at h
  · rename_i hi
    exact .inl ⟨hi, h⟩
  · rename_i w rest hi
    split at h
    · rename_i i hd
      exact .inr ⟨w, rest, i, hi, hd, h⟩
    · cases h

end Sys2Proof.Machine
end

