-- ==== Sys2Proof/Laws/Stream.lean ====
section
/-! SUPPORT. Streams of bytes and of packets: what one more byte, and one more packet, does. -/

namespace Sys2Proof.Machine

/-- One more byte of a stream: it is discarded, in position 0, or it is one of the accepted bytes. -/
theorem acceptedBytes_cons (par : Params) (len pos : Nat) (b : Byte × Clk) (bs : List (Byte × Clk)) :
    (pos = 0 ∧ startClass par b.1 ≠ .ok ∧ acceptedBytes par len pos (b :: bs) = acceptedBytes par len pos bs) ∨
    ((pos = 0 → startClass par b.1 = .ok) ∧
      acceptedBytes par len pos (b :: bs) = b :: acceptedBytes par len ((pos + 1) % len) bs) := by
  by_cases h : pos = 0 ∧ startClass par b.1 ≠ .ok
  · exact .inl ⟨h.1, h.2, if_pos h⟩
  · exact .inr ⟨fun h0 => by_contra fun h1 => h ⟨h0, h1⟩, if_neg h⟩

/-- One more byte fed: a discard leaves the state for the rest of the stream, an accepted byte the state after it. -/
theorem feedAll_cons (b : Byte × Clk) (bs : List (Byte × Clk)) (s : State) :
    (s.count = 0 ∧ startClass s.par b.1 ≠ .ok ∧ feedAll (b :: bs) s = feedAll bs s) ∨
    ((s.count = 0 → startClass s.par b.1 = .ok) ∧ feedAll (b :: bs) s = feedAll bs (s.accept b.1 b.2)) := by
  rcases execFeed_cases b.1 b.2 s with ⟨h0, h1, h⟩ | ⟨h0, h⟩
  · exact .inl ⟨h0, h1, by simp only [feedAll, exec, h]⟩
  · exact .inr ⟨h0, by simp only [feedAll, exec, h]⟩

/-- One more packet dispatched: a due button-up, then the packet, then the rest. -/
theorem dispatchAll_cons {i : Instr} {now : Clk} {s t : State} (ps : List (Instr × Clk))
    (h : exec i (s.expireIfDue now) = .next t) : dispatchAll ((i, now) :: ps) s = dispatchAll ps t := by
  by_cases hd : s.mot.tapArmed = true ∧ s.mot.tapDeadline ≤ now.toNat
  · rw [State.expireIfDue_of_due s now hd] at h
    simp only [dispatchAll, if_pos hd, exec, execTimerExpire, if_pos hd.1] at h ⊢
    rw [h]
  · rw [State.expireIfDue_of_not_due s now hd] at h
    simp only [dispatchAll, if_neg hd, h]

/-- As many relative packets as whole fours of bytes. -/
theorem relPackets_length (bs : List (Byte × Clk)) : (relPackets bs).length = bs.length / 4 := by
  induction bs using relPackets.induct with
  | case1 b0 b1 b2 b3 bs ih => simp only [relPackets, List.length_cons, ih]; omega
  | case2 bs h =>
    have : bs.length < 4 := by
      match bs, h with
      | [], _ | [_], _ | [_, _], _ | [_, _, _], _ => simp
      | b0 :: b1 :: b2 :: b3 :: bs, h => exact (h b0 b1 b2 b3 bs rfl).elim
    rw [relPackets.eq_2 bs h, List.length_nil]
    omega

/-- As many absolute packets as whole sixes of bytes. -/
theorem absPackets_length (bs : List (Byte × Clk)) : (absPackets bs).length = bs.length / 6 := by
  induction bs using absPackets.induct with
  | case1 b0 b1 b2 b3 b4 b5 bs ih => simp only [absPackets, List.length_cons, ih]; omega
  | case2 bs h =>
    have : bs.length < 6 := by
      match bs, h with
      | [], _ | [_], _ | [_, _], _ | [_, _, _], _ | [_, _, _, _], _ | [_, _, _, _, _], _ => simp
      | b0 :: b1 :: b2 :: b3 :: b4 :: b5 :: bs, h => exact (h b0 b1 b2 b3 b4 b5 bs rfl).elim
    rw [absPackets.eq_2 bs h, List.length_nil]
    omega

end Sys2Proof.Machine
end

