-- ==== Sys2Proof/Tests/Slice0.lean ====
section
/-! SUPPORT. The model's own tests: ill-formed terms refused, words written out from the encodings, one step of each
operation with the spec's own example, and a witness for the hypotheses of every obligation that has some. -/

namespace Sys2Proof.Tests

open Sys2Proof.Machine

/-! ### Small states -/

/-- The default parameters with a `TAP_UP_DELAY` of 50 ms, the value of 95_test_vectors. -/
def par0 : Params := ⟨0xFA, 0x08, 0x08, 3, 50000000⟩

/-- The machine after reset with these parameters. -/
def s0 : State := { State.reset with par := par0 }

/-- The same in `ABS6` mode. -/
def sAbs : State := s0.setCfg { s0.cfg with pktMode := .abs6 }

/-- MotionState changed. -/
def withMot (f : MotionState → MotionState) : State := s0.setMot (f s0.mot)

/-- A button-up scheduled for 170 ms (44 R212's example with a delay of 50 ms). -/
def armed (m : MotionState) : MotionState := { m with tapBtn := true, tapArmed := true, tapDeadline := 170000000 }

/-- What holds of the next state, if there is one. -/
def nextIs (r : Result) (p : State → Bool) : Bool :=
  match r with
  | .next s => p s
  | .fault _ => false
  | .refused _ => false

/-! ### WellFormed refuses an ill-formed term of each check -/

theorem test_wf_startAck : (Instr.startAck 0x08).wf par0 = false := by decide
theorem test_wf_startBadhdr_header : (Instr.startBadhdr 0x08).wf par0 = false := by decide
theorem test_wf_startBadhdr_ack : (Instr.startBadhdr 0xFA).wf par0 = false := by decide
theorem test_wf_startOk_header : (Instr.startOk 0xF7).wf par0 = false := by decide
theorem test_wf_startOk_ack : (Instr.startOk 0xFA).wf par0 = false := by decide
theorem test_wf_gEdgescroll : (Instr.gEdgescroll 0 0 .none 0).wf par0 = false := by decide
theorem test_wf_gMove : (Instr.gMove 0 0 true 4 0).wf par0 = false := by decide
theorem test_wf_gTapclick : (Instr.gTapclick true false 3 0).wf par0 = false := by decide
theorem test_wf_gCommit : (Instr.gCommit 0 0 0 .none true false 5).wf par0 = false := by decide
theorem test_wf_cfgwIgnored_low : (Instr.cfgwIgnored 1 0).wf par0 = false := by decide
theorem test_wf_cfgwIgnored_high : (Instr.cfgwIgnored 8 0).wf par0 = false := by decide
theorem test_wf_script_cfgw : (ScriptOp.cfgw 0 1).wf = false := by decide
theorem test_wf_script_abs :
    (ScriptLine.abs 0 0 0 false false false false (some 0xFA) 0).wf par0 = false := by decide
theorem test_legal_delay : Params.legal { par0 with tapUpDelay := 0 } = false := by decide
theorem test_legal_header : Params.legal { par0 with hdrValue := 0x18 } = false := by decide
theorem test_legal_defaults : par0.legal = true := by decide

/-! ### Decoding: each rejection by its name -/

theorem test_decode_rst_operand : decode par0 true ⟨.rst, [0], 0⟩ = .error .rstOperand := rfl
theorem test_decode_byte_length : decode par0 true ⟨.byteIn, [0x08, 0x08], 0⟩ = .error .byteLength := rfl
theorem test_decode_mode_length : decode par0 true ⟨.mode, [], 0⟩ = .error .modeLength := rfl
theorem test_decode_mode_value : decode par0 true ⟨.mode, [2], 0⟩ = .error .modeValue := rfl
theorem test_decode_cfg_length : decode par0 true ⟨.cfg, [1, 0], 0⟩ = .error .cfgLength := rfl
theorem test_decode_cfg_number : decode par0 true ⟨.cfg, [16, 0, 0, 0, 0, 0, 0, 0, 0], 0⟩ = .error .cfgNumber := rfl
theorem test_decode_packet_length : decodePacket [0, 0, 0, 0, 0] 0 = .error .packetLength := rfl

/-! ### Decoding: words written out from the encodings (30_encoding R71 to R74, R81, and the examples of 40 R100, R101) -/

theorem test_word_reset : decode par0 true ⟨.rst, [], 0⟩ = .ok .reset := rfl
theorem test_word_feed : decode par0 false ⟨.byteIn, [0xFA], 7⟩ = .ok (.feed 0xFA 7) := rfl
theorem test_word_startAck : decode par0 true ⟨.byteIn, [0b11111010], 0⟩ = .ok (.startAck 0xFA) := rfl
theorem test_word_startBadhdr : decode par0 true ⟨.byteIn, [0b11110111], 0⟩ = .ok (.startBadhdr 0xF7) := rfl
theorem test_word_startOk : decode par0 true ⟨.byteIn, [0b00101000], 0⟩ = .ok (.startOk 0x28) := rfl
theorem test_word_modew_rel4 : decode par0 true ⟨.mode, [0], 0⟩ = .ok (.modew .rel4) := rfl
theorem test_word_modew_abs6 : decode par0 false ⟨.mode, [1], 0⟩ = .ok (.modew .abs6) := rfl
theorem test_word_cfgwClicking : decode par0 true ⟨.cfg, [1, 2, 0, 0, 0, 0, 0, 0, 0], 0⟩ = .ok (.cfgwClicking 2) := rfl
theorem test_word_cfgwDragging : decode par0 true ⟨.cfg, [2, 1, 0, 0, 0, 0, 0, 0, 0], 0⟩ = .ok (.cfgwDragging 1) := rfl
theorem test_word_cfgwDraglock : decode par0 true ⟨.cfg, [3, 1, 0, 0, 0, 0, 0, 0, 0], 0⟩ = .ok (.cfgwDraglock 1) := rfl
theorem test_word_cfgwHscrollEn : decode par0 true ⟨.cfg, [4, 0, 0, 0, 0, 0, 0, 0, 0], 0⟩ = .ok (.cfgwHscrollEn 0) := rfl
theorem test_word_cfgwVscrollEn : decode par0 true ⟨.cfg, [5, 0, 0, 0, 0, 0, 0, 0, 0x80], 0⟩ =
    .ok (.cfgwVscrollEn 0x8000000000000000) := rfl
/-- 1474560 = 0x168000. -/
theorem test_word_cfgwScrollAccelRaw : decode par0 true ⟨.cfg, [6, 0x00, 0x80, 0x16, 0, 0, 0, 0, 0], 0⟩ =
    .ok (.cfgwScrollAccelRaw 1474560) := rfl
theorem test_word_cfgwPointerAccelRaw : decode par0 true ⟨.cfg, [7, 0xFB, 0xFF, 0xFF, 0xFF, 0, 0, 0, 0], 0⟩ =
    .ok (.cfgwPointerAccelRaw 0xFFFFFFFB) := rfl
/-- 200 000 000 = 0x0BEBC200. -/
theorem test_word_cfgwMaxTapTime : decode par0 true ⟨.cfg, [8, 0x00, 0xC2, 0xEB, 0x0B, 0, 0, 0, 0], 0⟩ =
    .ok (.cfgwMaxTapTime 200000000) := rfl
theorem test_word_cfgwIgnored : decode par0 true ⟨.cfg, [9, 1, 0, 0, 0, 0, 0, 0, 0], 0⟩ = .ok (.cfgwIgnored 9 1) := rfl
theorem test_word_cfgwIgnored_zero : decode par0 true ⟨.cfg, [0, 1, 0, 0, 0, 0, 0, 0, 0], 0⟩ = .ok (.cfgwIgnored 0 1) := rfl
theorem test_word_pktRel3 : decodePacket [0x09, 0x05, 0x03] 0 = .ok (.pktRel3 ⟨0x09, 0x05, 0x03⟩ 0) := rfl
theorem test_word_pktRel4 : decodePacket [0x38, 0xFB, 0x02, 0x0F] 0 = .ok (.pktRel4 ⟨0x38, 0xFB, 0x02, 0x0F⟩ 0) := rfl
theorem test_word_pktAbs6 : decodePacket [0x08, 0x52, 0x4B, 0x43, 0x37, 0x59] 0 =
    .ok (.pktAbs6 ⟨0x08, 0x52, 0x4B, 0x43, 0x37, 0x59⟩ 0) := rfl
/-- 95_test_vectors P2, row 6: `ABS 315, 309, 45, TAP`. -/
theorem test_asmAbs : asmAbs 315 309 45 false false true false none = ⟨0x08, 0x3B, 0x12, 0x20, 0x35, 0x2D⟩ := by decide
/-- 95_test_vectors P5, row 10: `REL4 -3, 7, 0, 1`. -/
theorem test_asmRel4 : asmRel4 (-3) 7 0 1 = ⟨0x18, 0xFD, 0x07, 0x01⟩ := by decide

/-! ### One step of each operation -/

/-- 70_reset R260: a button-up that was scheduled is dropped without an event. -/
theorem test_reset_drops_button_up :
    nextIs (exec .reset (withMot armed)) (fun t => decide (t.mot = MotionState.reset ∧ t.out = [])) = true := by decide
/-- 70_reset R260: a packet in progress is abandoned, and its bytes stay in the buffer. -/
theorem test_reset_abandons_packet :
    nextIs (exec .reset (s0.withBuffered [0x08, 5])) (fun t => decide (t.count = 0 ∧ t.buf = [(0, 0x08), (1, 5)])) = true := by
  decide

/-- 40 R102: `count = 3`, `FEED 0xFA` is data; 40 R103 then applies, and in `ABS6` mode `count` becomes 4. -/
theorem test_feed_ack_in_mid_packet :
    nextIs (exec (.feed 0xFA 0) (sAbs.withBuffered [0x08, 1, 2]))
      (fun t => decide (t.count = 4 ∧ t.buf.get? 3 = some 0xFA ∧ t.out = [])) = true := by decide
/-- 40 R104: bytes `08 05 03 00` with the last at 7 ms. -/
theorem test_feed_completes_rel4 :
    nextIs (exec (.feed 0x00 7000000) (s0.withBuffered [0x08, 0x05, 0x03]))
      (fun t => decide (t.count = 0 ∧ t.out = [.motion 5 (-3) 0 7000000, .scroll 0 0 7000000])) = true := by decide

/-- 40 R100: from reset, `FEED 0xFA` is discarded. -/
theorem test_startAck : nextIs (exec (.startAck 0xFA) s0) (fun t => decide (t = s0)) = true := by decide
theorem test_startAck_feed : nextIs (exec (.feed 0xFA 0) s0) (fun t => decide (t = s0)) = true := by decide
/-- 40 R101: `count = 0`, `FEED 0xF7` (bit 3 clear) is discarded. -/
theorem test_startBadhdr : nextIs (exec (.startBadhdr 0xF7) s0) (fun t => decide (t = s0)) = true := by decide
theorem test_startBadhdr_feed : nextIs (exec (.feed 0xF7 0) s0) (fun t => decide (t = s0)) = true := by decide
/-- 40 R100: `FEED 0x08` is stored and `count` becomes 1. -/
theorem test_startOk :
    nextIs (exec (.startOk 0x08) s0) (fun t => decide (t.count = 1 ∧ t.buf = [(0, 0x08)])) = true := by decide

/-- 42 R141: `p[3] = 0x08` gives `SCROLL(8, 0, now)`; 42 R140: `p[0] = 0x28`, `p[2] = 0x00` give `dy = +256`. -/
theorem test_pktRel4 :
    nextIs (exec (.pktRel4 ⟨0x28, 0, 0x00, 0x08⟩ 1) s0)
      (fun t => decide (t.out = [.motion 0 256 0 1, .scroll 8 0 1])) = true := by decide
/-- 95_test_vectors P2, row 6: the fourth packet of the touch reports the delta. -/
theorem test_pktAbs6_moves :
    nextIs (exec (.pktAbs6 ⟨0x08, 0x3B, 0x12, 0x20, 0x35, 0x2D⟩ 30000000)
        (withMot fun m => { m with prevX := 309, prevY := 305, prevZ := 45, warmCount := 3, touchMode := .move }))
      (fun t => decide (t.out = [.motion 6 4 0 30000000] ∧ t.mot.warmCount = 4 ∧ t.mot.prevX = 315)) = true := by decide
/-- 95_test_vectors P4, row 7: the fourth packet in two-finger mode scrolls by the signs, times 3. -/
theorem test_pktAbs6_two_finger :
    nextIs (exec (.pktAbs6 ⟨0x08, 0x2E, 0x1A, 0x20, 0x0E, 0x78⟩ 30000000)
        ((withMot fun m => { m with twoFinger := true, cnt := 3, refX := 400, refY := 300, warmCount := 3 }).setCfg
          { s0.cfg with scrollAccelRaw := 2211840 }))
      (fun t => decide (t.out = [.scroll (-3) 3 30000000] ∧ t.mot.cnt = 0 ∧ t.mot.refX = 430 ∧ t.mot.refY = 270)) = true := by
  decide
/-- 42 R137's example. -/
theorem test_pktRel3 :
    nextIs (exec (.pktRel3 ⟨0x09, 0x05, 0x03⟩ 4) s0) (fun t => decide (t.out = [.motion 5 (-3) 1 4])) = true := by decide

/-- 41 R121's example. -/
theorem test_decAbs :
    nextIs (exec (.decAbs ⟨0x08, 0x52, 0x4B, 0x43, 0x37, 0x59⟩) s0)
      (fun t => decide (t.res.sample = ⟨1234, 567, 89, true, true, true, true, true, 7⟩)) = true := by decide
/-- 41 R122, R123: the largest coordinates, and the bits that do not enter `x`. -/
theorem test_decAbs_bounds :
    (decodeAbs ⟨0, 0x7F, 0x78, 0x70, 0x7F, 0⟩).x = 2047 ∧ (decodeAbs ⟨0, 0x7F, 0x78, 0x70, 0x7F, 0⟩).y = 1023 ∧
    (decodeAbs ⟨0, 0x80, 0x87, 0x8F, 0x80, 0⟩).x = 0 ∧ (decodeAbs ⟨0, 0x80, 0x87, 0x8F, 0x80, 0⟩).y = 0 := by decide
/-- 42 R140: `p[0] = 0x18`, `p[1] = 0x00` give `dx = -256`; `p[2] = 0xFF` gives `dy = -255`. -/
theorem test_decRel3 :
    nextIs (exec (.decRel3 ⟨0x18, 0x00, 0xFF⟩ 0) s0) (fun t => decide (t.out = [.motion (-256) (-255) 0 0])) = true := by
  decide
/-- 42 R138's example. -/
theorem test_decRel4 :
    nextIs (exec (.decRel4 ⟨0x38, 0xFB, 0x02, 0x0F⟩ 9) s0)
      (fun t => decide (t.out = [.motion (-5) 254 0 9, .scroll 1 0 9])) = true := by decide

/-- 43 R156's examples. -/
theorem test_gRegion_strict :
    nextIs (exec (.gRegion 900 650) s0) (fun t => decide (t.res.region = .none)) = true := by decide
theorem test_gRegion_corner :
    nextIs (exec (.gRegion 901 651) (withMot fun m => { m with prevRegion := .v })) (fun t => decide (t.res.region = .v)) = true ∧
    nextIs (exec (.gRegion 901 651) s0) (fun t => decide (t.res.region = .h)) = true := by decide
/-- 43 R158: the example, and `z = 99` does not enter. -/
theorem test_gTfentry :
    nextIs (exec (.gTfentry 950 300 150) s0)
      (fun t => decide (t.mot.twoFinger = true ∧ t.mot.refX = 950 ∧ t.mot.refY = 300)) = true := by decide
theorem test_gTfentry_below : nextIs (exec (.gTfentry 950 300 99) s0) (fun t => decide (t = s0)) = true := by decide
/-- 43 R160's examples. -/
theorem test_gWillscroll_ends :
    nextIs (exec (.gWillscroll 20 .v) s0) (fun t => !t.res.willScroll) = true ∧
    nextIs (exec (.gWillscroll 21 .v) s0) (fun t => t.res.willScroll) = true := by decide
theorem test_gWillscroll_upper :
    nextIs (exec (.gWillscroll 68 .h) s0) (fun t => t.res.willScroll) = true ∧
    nextIs (exec (.gWillscroll 69 .h) s0) (fun t => !t.res.willScroll) = true := by decide
/-- 43 R162's example. -/
theorem test_gTfscroll :
    nextIs (exec (.gTfscroll 950 320 8) (withMot fun m => { m with twoFinger := true, refX := 950, refY := 300, cnt := 3 }))
      (fun t => decide (t.out = [.scroll 1 0 8] ∧ t.mot.cnt = 0 ∧ t.mot.refY = 320)) = true := by decide
/-- 43 R164's example. -/
theorem test_gEdgescroll :
    nextIs (exec (.gEdgescroll 950 312 .v 8)
        (withMot fun m => { m with touchMode := .vScroll, refX := 950, refY := 300, prevZ := 40 }))
      (fun t => decide (t.out = [.scroll 12 0 8] ∧ t.mot.refX = 950 ∧ t.mot.refY = 312)) = true := by decide
/-- 43 R164: entering the scroll re-anchors, and the deltas are 0. -/
theorem test_gEdgescroll_anchors :
    nextIs (exec (.gEdgescroll 950 312 .h 8) (withMot fun m => { m with touchMode := .move, refX := 1, refY := 1, prevZ := 40 }))
      (fun t => decide (t.out = [.scroll 0 0 8] ∧ t.mot.touchMode = .vScroll)) = true := by decide
/-- 43 R166's example, and the held synthetic button. -/
theorem test_gMove :
    nextIs (exec (.gMove 464 300 true 0 8) (withMot fun m => { m with prevX := 373, prevY := 300, warmCount := 5 }))
      (fun t => decide (t.out = [.motion 91 0 0 8] ∧ t.mot.touchMode = .move)) = true := by decide
theorem test_gMove_held :
    nextIs (exec (.gMove 464 300 false 2 8) (withMot armed)) (fun t => decide (t.out = [.motion 0 0 3 8])) = true := by decide
/-- 43 R174's example: a release at 120 ms clicks, one at 300 ms does not. -/
theorem test_gTapclick_click :
    nextIs (exec (.gTapclick false false 0 120000000) (withMot fun m => { m with prevTapClick := true, lastTapTime := 100000000 }))
      (fun t => decide (t.out = [.motion 0 0 1 120000000] ∧ t.mot.tapArmed = true ∧ t.mot.tapDeadline = 170000000)) = true := by
  decide
theorem test_gTapclick_drag :
    nextIs (exec (.gTapclick false false 0 300000000) (withMot fun m => { m with prevTapClick := true, lastTapTime := 100000000 }))
      (fun t => decide (t.out = [] ∧ t.mot.tapArmed = false ∧ t.mot.touchMode = .noTouch)) = true := by decide
/-- 43 R180's example. -/
theorem test_gCommit :
    nextIs (exec (.gCommit 950 950 0 .h false false 0) (withMot fun m => { m with warmCount := 7, prevZ := 9 }))
      (fun t => decide (t.mot.prevX = 950 ∧ t.mot.prevY = 950 ∧ t.mot.prevZ = 0 ∧ t.mot.prevRegion = .h ∧
        t.mot.warmCount = 0)) = true := by decide

/-- 44 R204's example. -/
theorem test_modew : nextIs (exec (.modew .abs6) s0) (fun t => decide (t = sAbs)) = true := by decide
theorem test_cfgwClicking :
    nextIs (exec (.cfgwClicking 0) s0) (fun t => decide (t = s0.setCfg { s0.cfg with clicking := false })) = true := by decide
theorem test_cfgwDragging :
    nextIs (exec (.cfgwDragging 2) s0) (fun t => decide (t = s0.setCfg { s0.cfg with dragging := true })) = true := by decide
theorem test_cfgwDraglock :
    nextIs (exec (.cfgwDraglock 1) s0) (fun t => decide (t = s0.setCfg { s0.cfg with draglock := true })) = true := by decide
theorem test_cfgwHscrollEn :
    nextIs (exec (.cfgwHscrollEn 0) s0) (fun t => decide (t = s0.setCfg { s0.cfg with hscrollEn := false })) = true := by decide
theorem test_cfgwVscrollEn :
    nextIs (exec (.cfgwVscrollEn 0) s0) (fun t => decide (t = s0.setCfg { s0.cfg with vscrollEn := false })) = true := by decide
/-- 30 R81: `sext_32(v[31:0])`, the upper half of `v` dropped. -/
theorem test_cfgwScrollAccelRaw :
    nextIs (exec (.cfgwScrollAccelRaw 0x1FFFFFFFB) s0) (fun t => decide (t.cfg.scrollAccelRaw.toInt = -5)) = true := by decide
theorem test_cfgwPointerAccelRaw :
    nextIs (exec (.cfgwPointerAccelRaw 0x80000000) s0)
      (fun t => decide (t.cfg.pointerAccelRaw.toInt = -2147483648 ∧ t.cfg.scrollAccelRaw = 737280)) = true := by decide
theorem test_cfgwMaxTapTime :
    nextIs (exec (.cfgwMaxTapTime 7) s0) (fun t => decide (t = s0.setCfg { s0.cfg with maxTapTime := 7 })) = true := by decide
theorem test_cfgwIgnored : nextIs (exec (.cfgwIgnored 15 7) s0) (fun t => decide (t = s0)) = true := by decide
/-- 44 R207's examples: the factors 1/2, 3/2 and the floor. -/
theorem test_scale :
    scale { s0.cfg with scrollAccelRaw := 368640 } (-3) = -1 ∧ scale { s0.cfg with scrollAccelRaw := 1105920 } (-3) = -4 ∧
    scale { s0.cfg with scrollAccelRaw := 0 } 99 = 0 ∧ scale { s0.cfg with scrollAccelRaw := -5 } 250 = 2 := by decide

/-- 44 R212's example. -/
theorem test_timerExpire :
    nextIs (exec .timerExpire (withMot armed))
      (fun t => decide (t.out = [.motion 0 0 0 170000000] ∧ t.mot.tapBtn = false ∧ t.mot.tapArmed = false)) = true := by decide
/-- 44 R212: a physical left button stays pressed. -/
theorem test_timerExpire_left_held :
    nextIs (exec .timerExpire (withMot fun m => armed { m with lastButtons := 1 }))
      (fun t => decide (t.out = [.motion 0 0 1 170000000])) = true := by decide
theorem test_evMotion :
    nextIs (exec (.evMotion 0xFFFFFFFF 2 7 5) s0) (fun t => decide (t.out = [.motion (-1) 2 7 5])) = true := by decide
theorem test_evScroll :
    nextIs (exec (.evScroll 0x80000000 3 5) s0) (fun t => decide (t.out = [.scroll (-2147483648) 3 5])) = true := by decide

/-! ### A table row's word placed for the next step -/

theorem test_withFetchWord_feed :
    nextIs (step (s0.withFetchWord 8 0x08)) (fun t => decide (t.count = 1 ∧ t.buf = [(0, 0x08)])) = false ∧
    nextIs (step (s0.withFetchWord 8 0x18)) (fun t => decide (t.count = 1 ∧ t.buf = [(0, 0x18)])) = true := by decide
theorem test_withFetchWord_packet :
    nextIs (step (s0.withFetchWord 32 0x0F02FB38)) (fun t => decide (t.out = [.motion (-5) 254 0 0, .scroll 1 0 0])) = true := by
  decide

/-! ### Witnesses: a state and operands that meet the hypotheses of each obligation, for each of its clauses -/

/-- The script reduced to one word. -/
def pending (s : State) (w : PortWord) : State := { s with input := [w] }

/-- `n` bytes of a packet buffered. -/
def mid (s : State) (n : Nat) : State := s.withBuffered (List.replicate n 0x08)

/-- A packet of a finger on the right edge with the pressure in the band: `ABS 950, 400, 40, TAP` (95_test_vectors P3). -/
def edgePkt : Pkt6 := ⟨0x08, 0x36, 0x3A, 0x30, 0x10, 0x28⟩

/-- `ABS 322, 314, 35, TAP, TC` (95_test_vectors P2). -/
def tapPkt : Pkt6 := ⟨0x08, 0x42, 0x13, 0x20, 0x3A, 0x23⟩

/-- `ABS 400, 300, 120, TAP` (95_test_vectors P4). -/
def pressPkt : Pkt6 := ⟨0x08, 0x10, 0x1A, 0x20, 0x2C, 0x78⟩

/-- `ABS 322, 314, 0` (95_test_vectors P2). -/
def liftPkt : Pkt6 := ⟨0x08, 0x42, 0x10, 0x20, 0x3A, 0x00⟩

theorem test_witness_StepRunsTheDecodedOperation :
    (pending s0 ⟨.rst, [], 0⟩).input = ⟨.rst, [], 0⟩ :: [] ∧
    decode (pending s0 ⟨.rst, [], 0⟩).par ((pending s0 ⟨.rst, [], 0⟩).count == 0) ⟨.rst, [], 0⟩ = .ok .reset ∧
    decode (pending s0 ⟨.rst, [0], 0⟩).par ((pending s0 ⟨.rst, [0], 0⟩).count == 0) ⟨.rst, [0], 0⟩ = .error .rstOperand :=
  ⟨rfl, rfl, rfl⟩

theorem test_witness_StepWithNothingPendingIsTheTimer :
    (withMot armed).input = [] ∧ (withMot armed).mot.tapArmed = true ∧ s0.input = [] ∧ s0.mot.tapArmed = false := by decide

theorem test_witness_ByteStepIsAWholeFeed :
    (pending s0 (byteWord 0xF7 0)).input = byteWord 0xF7 0 :: [] ∧
    (pending (mid s0 3) (byteWord 0xFA 1)).input = byteWord 0xFA 1 :: [] := by decide

theorem test_witness_ScriptLineStepsRunTheirOperation :
    (s0.load [.op .reset]).input = opWords 0 (ScriptLine.op .reset).expand ++ [] ∧
    (s0.load [.op (.modew .abs6)]).input = opWords 0 (ScriptLine.op (.modew .abs6)).expand ++ [] ∧
    (s0.load [.op (.cfgw 15 1)]).input = opWords 0 (ScriptLine.op (.cfgw 15 1)).expand ++ [] ∧
    (s0.load [.op (.feed 0 (some 1))]).input = opWords 0 (ScriptLine.op (.feed 0 (some 1))).expand ++ [] ∧
    (s0.load [.op (.feed 0 none)]).input = opWords 0 (ScriptLine.op (.feed 0 none)).expand ++ [] :=
  ⟨rfl, rfl, rfl, rfl, rfl⟩

/-- A first byte omitted, and one named. -/
theorem test_witness_PseudoOperationLineMakesOnePacket :
    (ScriptLine.abs 315 309 45 false false true false none 5).wf sAbs.par = true ∧
    (ScriptLine.abs 315 309 45 false false true false (some 0xFF) 5).wf sAbs.par = true ∧
    sAbs.count = 0 ∧ sAbs.cfg.pktMode = .abs6 ∧
    (sAbs.load [.abs 315 309 45 false false true false none 5]).input =
      opWords 0 (ScriptLine.abs 315 309 45 false false true false none 5).expand ++ [] ∧
    startClass s0.par (asmRel4 (-3) 7 0 1).p0 = .ok ∧ s0.count = 0 ∧ s0.cfg.pktMode = .rel4 ∧
    (s0.load [.rel4 (-3) 7 0 1 5]).input = opWords 0 (ScriptLine.rel4 (-3) 7 0 1 5).expand ++ [] :=
  ⟨by decide, by decide, rfl, rfl, rfl, by decide, rfl, rfl, rfl⟩

theorem test_witness_StepOnlyAppendsEventsAndKeepsParameters : ∃ t, step (withMot armed) = .next t ∧ t.out ≠ [] :=
  ⟨_, rfl, by decide⟩

theorem test_witness_DiscardedByteChangesNothing :
    s0.count = 0 ∧ (0xFA : Byte) = s0.par.ackCode ∧ (0xF7 : Byte) &&& s0.par.hdrMask ≠ s0.par.hdrValue := by decide

theorem test_witness_StartOkStoresTheFirstByte :
    (s0.count = 0 ∧ (0x08 : Byte) ≠ s0.par.ackCode ∧ (0x08 : Byte) &&& s0.par.hdrMask = s0.par.hdrValue) ∧
    ((mid s0 1).count ≠ 0) ∧ (0xFA : Byte) = s0.par.ackCode ∧ (0xF7 : Byte) &&& s0.par.hdrMask ≠ s0.par.hdrValue := by decide

theorem test_witness_FeedWhileSeekingIsTheStartClass :
    s0.count = 0 ∧ (0xFA : Byte) = s0.par.ackCode ∧
    ((0xF7 : Byte) ≠ s0.par.ackCode ∧ (0xF7 : Byte) &&& s0.par.hdrMask ≠ s0.par.hdrValue) ∧
    ((0x08 : Byte) ≠ s0.par.ackCode ∧ (0x08 : Byte) &&& s0.par.hdrMask = s0.par.hdrValue) := by decide

theorem test_witness_AcceptedByteIsStoredAtCount :
    (s0.count.val ≠ 5 ∧ ¬(s0.count.val = 3 ∧ s0.cfg.pktMode = .rel4) ∧ (0x08 : Byte) ≠ s0.par.ackCode ∧
      (0x08 : Byte) &&& s0.par.hdrMask = s0.par.hdrValue) ∧
    ((mid s0 4).count ≠ 0 ∧ (mid s0 4).count.val ≠ 5 ∧ ¬((mid s0 4).count.val = 3 ∧ (mid s0 4).cfg.pktMode = .rel4)) ∧
    ((mid sAbs 3).count ≠ 0 ∧ (mid sAbs 3).count.val ≠ 5 ∧
      ¬((mid sAbs 3).count.val = 3 ∧ (mid sAbs 3).cfg.pktMode = .rel4)) := by decide

/-- A button-up due exactly at its deadline, and one that is not due a nanosecond before it. -/
theorem test_witness_FourthByteDispatchesTheRelativePacket :
    (mid (withMot armed) 3).count.val = 3 ∧ (mid (withMot armed) 3).cfg.pktMode = .rel4 ∧
    ((mid (withMot armed) 3).mot.tapArmed = true ∧ (mid (withMot armed) 3).mot.tapDeadline ≤ (170000000 : Clk).toNat) ∧
    ¬((mid (withMot armed) 3).mot.tapArmed = true ∧ (mid (withMot armed) 3).mot.tapDeadline ≤ (169999999 : Clk).toNat) := by
  decide

theorem test_witness_SixthByteDispatchesTheAbsolutePacket :
    (mid (withMot armed) 5).count.val = 5 ∧
    ((mid (withMot armed) 5).mot.tapArmed = true ∧ (mid (withMot armed) 5).mot.tapDeadline ≤ (170000000 : Clk).toNat) ∧
    ¬((mid (withMot armed) 5).mot.tapArmed = true ∧ (mid (withMot armed) 5).mot.tapDeadline ≤ (169999999 : Clk).toNat) := by
  decide

theorem test_witness_FramerCountFollowsTheTransitionTable :
    (s0.count.val = 0 ∧ (0xF7 : Byte) &&& s0.par.hdrMask ≠ s0.par.hdrValue) ∧
    ((0x08 : Byte) ≠ s0.par.ackCode ∧ (0x08 : Byte) &&& s0.par.hdrMask = s0.par.hdrValue) ∧
    (mid s0 1).count.val = 1 ∧ (mid s0 2).count.val = 2 ∧ ((mid s0 3).count.val = 3 ∧ (mid s0 3).cfg.pktMode = .rel4) ∧
    ((mid sAbs 3).count.val = 3 ∧ (mid sAbs 3).cfg.pktMode = .abs6) ∧ (mid s0 4).count.val = 4 ∧ (mid sAbs 5).count.val = 5 := by
  decide

theorem test_witness_FeedWritesOnlyTheByteAtCount :
    (∃ u, exec (.feed 0xFA 0) s0 = .next u ∧ u = s0) ∧
    ∃ u, exec (.feed 0xFA 0) (mid sAbs 3) = .next u ∧ u.buf.get? 3 = some 0xFA :=
  ⟨⟨_, rfl, by decide⟩, _, rfl, by decide⟩

theorem test_witness_ModeWriteInMidPacketIsSeenByTheNextLengthTest :
    (mid sAbs 3).count.val = 3 ∧ (mid s0 3).count.val = 3 ∧ (mid sAbs 4).count.val = 4 ∧ (mid sAbs 5).count.val = 5 := by
  decide

/-- The first byte is discarded: four of these five bytes make the one packet of `REL4` mode; seven bytes in `ABS6` mode
make one packet, and one byte is left over. -/
theorem test_witness_OnePacketPerDeclaredLengthOfAcceptedBytes :
    s0.count = 0 ∧ s0.cfg.pktMode = .rel4 ∧
    relPackets (acceptedBytes s0.par 4 0 [(0xFA, 0), (0x08, 0), (0xFA, 0), (0, 0), (0, 5)]) =
      [(.pktRel4 ⟨0x08, 0xFA, 0, 0⟩ 5, 5)] ∧
    sAbs.count = 0 ∧ sAbs.cfg.pktMode = .abs6 ∧
    absPackets (acceptedBytes sAbs.par 6 0 [(0x08, 0), (1, 0), (2, 0), (3, 0), (4, 0), (5, 7), (0x18, 8)]) =
      [(.pktAbs6 ⟨0x08, 1, 2, 3, 4, 5⟩ 7, 7)] ∧
    (acceptedBytes sAbs.par 6 0 [(0x08, 0), (1, 0), (2, 0), (3, 0), (4, 0), (5, 7), (0x18, 8)]).length = 7 := by decide

theorem test_witness_SixBytesMakeOneAbsolutePacket :
    sAbs.count = 0 ∧ sAbs.cfg.pktMode = .abs6 ∧ sAbs.mot.tapArmed = false ∧ edgePkt.p0 ≠ sAbs.par.ackCode ∧
    edgePkt.p0 &&& sAbs.par.hdrMask = sAbs.par.hdrValue := by decide

theorem test_witness_EventCountOfOneFeed :
    (∃ u, exec (.feed 0 170000000) (mid (withMot armed) 3) = .next u ∧ u.out.length = 3) ∧
    (mid (withMot armed) 3).count.val = 3 ∧ (mid (withMot armed) 3).cfg.pktMode = .rel4 ∧
    (mid (withMot armed) 3).mot.tapArmed = true ∧ (mid (withMot armed) 3).mot.tapDeadline ≤ (170000000 : Clk).toNat ∧
    (∃ u, exec (.feed 0 170000000) (mid (withMot armed) 5) = .next u) ∧ (mid (withMot armed) 5).count.val = 5 ∧
    (∃ u, exec (.feed 0 0) (mid sAbs 4) = .next u) ∧ (mid sAbs 4).count.val ≠ 5 ∧
    ¬((mid sAbs 4).count.val = 3 ∧ (mid sAbs 4).cfg.pktMode = .rel4) :=
  ⟨⟨_, rfl, by decide⟩, by decide, by decide, by decide, by decide, ⟨_, rfl⟩, by decide, ⟨_, rfl⟩, by decide, by decide⟩

theorem test_witness_RelativePacketIgnoresTheClassifier :
    (mid (withMot armed) 3).count.val = 3 ∧ (mid (withMot armed) 3).cfg.pktMode = .rel4 ∧
    (∃ u, exec (.feed 0 170000000) (mid (withMot armed) 3) = .next u) ∧ (∃ u, exec (.feed 0 169999999) (mid (withMot armed) 3) = .next u) ∧
    ((withMot armed).mot.tapArmed = true ∧ (withMot armed).mot.tapDeadline ≤ (170000000 : Clk).toNat) ∧
    ¬((withMot armed).mot.tapArmed = true ∧ (withMot armed).mot.tapDeadline ≤ (169999999 : Clk).toNat) ∧
    ConfigRegs.reset.pktMode = .rel4 ∧ ¬(MotionState.reset.tapArmed = true ∧ MotionState.reset.tapDeadline ≤ (169999999 : Clk).toNat) :=
  ⟨by decide, by decide, ⟨_, rfl⟩, ⟨_, rfl⟩, by decide, by decide, by decide, by decide⟩

/-- Two packets of each format that differ in every ignored bit. -/
theorem test_witness_IgnoredPacketBitsHaveNoEffect :
    ((0x80 : Byte) &&& 0x7F = 0 &&& 0x7F ∧ (0x84 : Byte) &&& 0x7B = 0 &&& 0x7B ∧ (0x8C : Byte) &&& 0x73 = 0 &&& 0x73) ∧
    (0xC8 : Byte) &&& 0x37 = 0 &&& 0x37 ∧ (0xF0 : Byte) &&& 0x0F = 0 &&& 0x0F := by decide

theorem test_witness_TwoFingerEntryCapturesTheReference :
    (100 ≤ (100 : Byte).toNat ∧ (s0.cfg.hscrollEn = true ∨ s0.cfg.vscrollEn = true) ∧ s0.mot.twoFinger = false) ∧
    ¬(100 ≤ (99 : Byte).toNat ∧ (s0.cfg.hscrollEn = true ∨ s0.cfg.vscrollEn = true) ∧ s0.mot.twoFinger = false) := by decide

theorem test_witness_TwoFingerScrollIsGated :
    min ((withMot fun m => { m with cnt := 2 }).mot.cnt.toNat + 1) 255 < 4 ∧
    4 ≤ min ((withMot fun m => { m with cnt := 3 }).mot.cnt.toNat + 1) 255 := by decide

theorem test_witness_MoveReportsTheFrameDelta :
    (withMot fun m => { m with warmCount := 2 }).mot.warmCount.toNat < s0.par.warmupPackets.toNat ∧
    s0.par.warmupPackets.toNat ≤ (withMot fun m => { m with warmCount := 3 }).mot.warmCount.toNat := by decide

/-- A release one nanosecond under the tap time, and one at it. -/
theorem test_witness_TapClickDecidesAtTheRelease :
    ((withMot fun m => { m with prevTapClick := true, lastTapTime := 1 }).mot.prevTapClick = true ∧ s0.cfg.clicking = true ∧
      (((200000000 : Clk).toNat : Nat) : Int) - (((1 : Clk).toNat : Nat) : Int) < ((s0.cfg.maxTapTime.toNat : Nat) : Int)) ∧
    ¬((((200000001 : Clk).toNat : Nat) : Int) - (((1 : Clk).toNat : Nat) : Int) < ((s0.cfg.maxTapTime.toNat : Nat) : Int)) := by
  decide

/-- Two-finger entry, the 22nd packet on the edge, and the 21st, which is an ordinary packet; then the two other rows of
the table. -/
theorem test_witness_TouchModeFollowsItsTransitionTable :
    s0.twoFingerAfterEntry (decodeAbs pressPkt) ∧ ¬s0.twoFingerAfterEntry (decodeAbs edgePkt) ∧
    (withMot fun m => { m with cnt := 21 }).edgeScrollOn (decodeAbs edgePkt) ∧
    ¬(withMot fun m => { m with cnt := 20 }).edgeScrollOn (decodeAbs edgePkt) ∧
    ((decodeAbs pressPkt).tapClick = false ∧ (decodeAbs pressPkt).tap = true) ∧
    ((decodeAbs edgePkt).tapClick = false ∧ (decodeAbs edgePkt).tap = true) ∧
    (decodeAbs tapPkt).tapClick = true ∧ (decodeAbs liftPkt).tapClick = false ∧ (decodeAbs liftPkt).tap = false :=
  ⟨(stageTfEntry_twoFinger _ _).1 (by decide), fun h => absurd ((stageTfEntry_twoFinger _ _).2 h) (by decide),
    (edgeSelected_iff _ _).1 (by decide), fun h => absurd ((edgeSelected_iff _ _).2 h) (by decide), by decide, by decide,
    by decide, by decide, by decide⟩

/-- The same packets; then a release one nanosecond under the tap time, and one at it. -/
theorem test_witness_PathDecidesTheEventPort :
    s0.twoFingerAfterEntry (decodeAbs pressPkt) ∧ ¬s0.twoFingerAfterEntry (decodeAbs edgePkt) ∧
    (withMot fun m => { m with cnt := 21 }).edgeScrollOn (decodeAbs edgePkt) ∧
    ¬(withMot fun m => { m with cnt := 20 }).edgeScrollOn (decodeAbs edgePkt) ∧
    (withMot fun m => { m with prevTapClick := true, lastTapTime := 1 }).clickReleased (decodeAbs liftPkt) 200000000 ∧
    ¬(withMot fun m => { m with prevTapClick := true, lastTapTime := 1 }).clickReleased (decodeAbs liftPkt) 200000001 :=
  ⟨(stageTfEntry_twoFinger _ _).1 (by decide), fun h => absurd ((stageTfEntry_twoFinger _ _).2 h) (by decide),
    (edgeSelected_iff _ _).1 (by decide), fun h => absurd ((edgeSelected_iff _ _).2 h) (by decide),
    ⟨by decide, by decide, by decide, by decide⟩, fun h => absurd h.2.2.2 (by decide)⟩

theorem test_witness_ClickExactlyOnAShortTapRelease :
    ((decodeAbs liftPkt).tapClick = false ∧
      (withMot fun m => { m with prevTapClick := true, lastTapTime := 1 }).mot.prevTapClick = true ∧ s0.cfg.clicking = true ∧
      (((200000000 : Clk).toNat : Nat) : Int) - (((1 : Clk).toNat : Nat) : Int) < ((s0.cfg.maxTapTime.toNat : Nat) : Int)) ∧
    ((s0.cfg.maxTapTime.toNat : Nat) : Int) ≤ (((200000001 : Clk).toNat : Nat) : Int) - (((1 : Clk).toNat : Nat) : Int) ∧
    (decodeAbs tapPkt).tapClick = true ∧ s0.mot.prevTapClick = false ∧
    (s0.setCfg { s0.cfg with clicking := false }).cfg.clicking = false := by decide

theorem test_witness_TwoFingerScrollsOnEveryFourthPacket :
    (withMot fun m => { m with twoFinger := true }).mot.twoFinger = true ∧ s0.mot.cnt = 0 ∧ s0.mot.prevTapClick = false ∧
    ∀ p ∈ List.replicate 4 (pressPkt, (0 : Clk)), (decodeAbs p.1).tap = true ∧ (decodeAbs p.1).tapClick = false := by decide

theorem test_witness_EdgeScrollBeginsOnTheTwentySecondPacket :
    s0.mot.twoFinger = false ∧ s0.mot.cnt = 0 ∧ s0.mot.touchMode ≠ .vScroll ∧ s0.mot.prevTapClick = false ∧
    s0.cfg.vscrollEn = true ∧
    ∀ p ∈ List.replicate 22 (edgePkt, (0 : Clk)), 900 < (decodeAbs p.1).x.toNat ∧ (decodeAbs p.1).y.toNat ≤ 650 ∧
      20 < (decodeAbs p.1).z.toNat ∧ (decodeAbs p.1).z.toNat < 69 ∧ (decodeAbs p.1).tapClick = false := by
  refine ⟨by decide, by decide, by decide, by decide, by decide, fun p hp => ?_⟩
  rw [List.eq_of_mem_replicate hp]
  decide

theorem test_witness_FirstPacketsOfATouchReportNoMotion :
    s0.mot.warmCount = 0 ∧ (List.replicate 3 (edgePkt, (0 : Clk))).length ≤ s0.par.warmupPackets.toNat ∧
    ∀ p ∈ List.replicate 3 (edgePkt, (0 : Clk)), (decodeAbs p.1).tap = true := by decide

theorem test_witness_ConfigurationWriteReadBack :
    (1 ≤ (1 : BitVec 4).toNat ∧ (5 : BitVec 4).toNat ≤ 5) ∧ (6 : BitVec 4).toNat = 6 ∧ (7 : BitVec 4).toNat = 7 ∧
    (8 : BitVec 4).toNat = 8 ∧ (0 : BitVec 4).toNat = 0 ∧ 9 ≤ (9 : BitVec 4).toNat ∧ (1 : BitVec 4) ≠ 2 := by decide

theorem test_witness_ScaleIsTheTruncatedProduct : (0 : Int) ≤ 3 ∧ (-3 : Int) ≤ 0 := by decide

theorem test_witness_TimerReleasesTheSyntheticButton : (withMot armed).mot.tapArmed = true := by decide

theorem test_witness_DecodingInvertsEncoding :
    ((Instr.startOk 0x08).wf par0 = true ∧ encode (.startOk 0x08) = some (byteWord 0x08 0)) ∧
    ((Instr.feed 0xFA 3).wf par0 = true ∧ encode (.feed 0xFA 3) = some (byteWord 0xFA 3) ∧
      (Instr.feed 0xFA 3).isStartClass = false) ∧
    decode par0 true (cfgWord 9 1) = .ok (.cfgwIgnored 9 1) := ⟨⟨by decide, rfl⟩, ⟨rfl, rfl, rfl⟩, rfl⟩

theorem test_witness_EveryStepKeepsTheInvariants :
    (mid s0 3).buf.wf = true ∧ (mid s0 3).mot.tapBtn = (mid s0 3).mot.tapArmed ∧ (mid s0 3).buffered ∧
    (∀ e ∈ (mid s0 3).out, e.fits) ∧ ∃ t, step (pending (mid s0 3) (byteWord 0 1)) = .next t := by
  refine ⟨by decide, by decide, ?_, fun e he => absurd he List.not_mem_nil, _, rfl⟩
  show ∀ a, a < 3 → ((mid s0 3).buf.get? a).isSome = true
  decide

theorem test_witness_EveryStepKeepsScrollingWithPressure :
    (withMot fun m => { m with touchMode := .vScroll, prevZ := 40 }).scrollPressure ∧
    ∃ t, step (withMot fun m => { m with touchMode := .vScroll, prevZ := 40 }) = .next t :=
  ⟨fun _ _ => by decide, _, rfl⟩

theorem test_witness_EventTimestampsStayInOrder :
    (withMot armed).timeOrdered 170000000 ∧ 170000000 ≤ (170000000 : Clk).toNat ∧
    (∃ u, exec (.feed 0x08 170000000) (withMot armed) = .next u) ∧ (∃ u, exec .timerExpire (withMot armed) = .next u) ∧
    (∃ u, step (withMot armed) = .next u) ∧ (mid (withMot armed) 5).byteCompletes ∧
    (mid (withMot armed) 5).timeOrdered 170000000 ∧ ∃ u, step (pending (mid (withMot armed) 5) (byteWord 0 170000000)) = .next u :=
  ⟨⟨List.Pairwise.nil, fun _ he => absurd he List.not_mem_nil, fun _ => Nat.le_refl _⟩, by decide, ⟨_, rfl⟩, ⟨_, rfl⟩, ⟨_, rfl⟩,
    .inl rfl, ⟨List.Pairwise.nil, fun _ he => absurd he List.not_mem_nil, fun _ => Nat.le_refl _⟩, _, rfl⟩

theorem test_witness_OnlyPacketsTimerAndResetWriteMotionState :
    ∃ t, step (withMot armed) = .next t ∧ t.mot ≠ (withMot armed).mot := ⟨_, rfl, by decide⟩

theorem test_witness_OnlyTheHostPortsWriteTheConfiguration :
    (∃ t, step (pending s0 ⟨.mode, [1], 0⟩) = .next t ∧ t.cfg ≠ s0.cfg) ∧
    ∃ t, step (pending s0 (byteWord 0x08 0)) = .next t ∧ t.buf ≠ s0.buf :=
  ⟨⟨_, rfl, by decide⟩, _, rfl, by decide⟩

theorem test_witness_UnusedRegistersAreUnobservable : ∃ t, step (pending s0 (cfgWord 2 1)) = .next t := ⟨_, rfl⟩

/-- A script of one word that decodes whatever the framer's state is. -/
theorem test_witness_EveryRunEndsWithTheButtonReleased :
    (∀ w ∈ (pending (withMot armed) ⟨.mode, [1], 0⟩).input, ∀ k, ∃ i, decode par0 k w = .ok i) ∧
    (withMot armed).mot.tapBtn = (withMot armed).mot.tapArmed := by
  refine ⟨fun w hw k => ?_, by decide⟩
  rw [List.mem_singleton.1 hw]
  exact ⟨_, rfl⟩

end Sys2Proof.Tests
end

section
/-! Noninterference of the registers that nothing reads (10_state R39, R40, R44). The configuration reaches the classifier
through four readers only; each gives the same answer on an erased configuration, so every stage does. Every operation
on the state then commutes with the erasure, but for those that write an erased register; these agree after one more
erasure. -/

namespace Sys2Proof.Machine

/-! ### The erased configuration and its readers -/

/-- The configuration registers with `DRAGGING`, `DRAGLOCK` and `POINTER_ACCEL_RAW` erased. -/
def ConfigRegs.eraseUnused (c : ConfigRegs) : ConfigRegs :=
  { c with dragging := false, draglock := false, pointerAccelRaw := 0 }

/-- Two-finger entry reads the two scroll enables only (R158). -/
@[simp] theorem twoFingerEntry_eraseUnused (c : ConfigRegs) (z : Byte) (m : MotionState) :
    twoFingerEntry c.eraseUnused z m = twoFingerEntry c z m := rfl

/-- `willScroll` reads the enable of the active region only (R160). -/
@[simp] theorem willScrollFlag_eraseUnused (c : ConfigRegs) (z : Byte) (region : Region) :
    willScrollFlag c.eraseUnused z region = willScrollFlag c z region := by
  cases region <;> rfl

/-- `SCALE` reads `SCROLL_ACCEL_RAW` only (R206, R207). -/
@[simp] theorem scale_eraseUnused (c : ConfigRegs) (d : Int) : scale c.eraseUnused d = scale c d := rfl

/-- A click reads `CLICKING` and `MAX_TAP_TIME` only (R174). -/
@[simp] theorem isClick_eraseUnused (c : ConfigRegs) (now : Clk) (m : MotionState) :
    isClick c.eraseUnused now m = isClick c now m := rfl

/-! ### The classifier on an erased configuration -/

@[simp] theorem stageTfEntry_eraseUnused (c : ConfigRegs) (x : XCoord) (y : YCoord) (z : Byte) (m : MotionState) :
    stageTfEntry c.eraseUnused x y z m = stageTfEntry c x y z m := by
  unfold stageTfEntry
  rw [twoFingerEntry_eraseUnused]

@[simp] theorem stageTfScroll_eraseUnused (c : ConfigRegs) (x : XCoord) (y : YCoord) (now : Clk) (m : MotionState) :
    stageTfScroll c.eraseUnused x y now m = stageTfScroll c x y now m := by
  simp only [stageTfScroll, scale_eraseUnused]

@[simp] theorem stageEdgeScroll_eraseUnused (c : ConfigRegs) (x : XCoord) (y : YCoord) (region : Region) (now : Clk)
    (m : MotionState) : stageEdgeScroll c.eraseUnused x y region now m = stageEdgeScroll c x y region now m := by
  simp only [stageEdgeScroll, scale_eraseUnused]

@[simp] theorem stageTapClick_eraseUnused (par : Params) (c : ConfigRegs) (tap tapClick : Bool) (buttons : Buttons)
    (now : Clk) (m : MotionState) :
    stageTapClick par c.eraseUnused tap tapClick buttons now m = stageTapClick par c tap tapClick buttons now m := by
  unfold stageTapClick
  rw [isClick_eraseUnused]

@[simp] theorem stagePath_eraseUnused (par : Params) (c : ConfigRegs) (smp : Sample) (region : Region) (now : Clk)
    (m : MotionState) : stagePath par c.eraseUnused smp region now m = stagePath par c smp region now m := by
  simp only [stagePath, willScrollFlag_eraseUnused, stageTfScroll_eraseUnused, stageEdgeScroll_eraseUnused]

/-- The whole classifier reads none of the three registers (R39, R40, R44). -/
@[simp] theorem classify_eraseUnused (par : Params) (c : ConfigRegs) (smp : Sample) (now : Clk) (m : MotionState) :
    classify par c.eraseUnused smp now m = classify par c smp now m := by
  simp only [classify, stageTfEntry_eraseUnused, stagePath_eraseUnused, stageTapClick_eraseUnused]

/-! ### What the erasure leaves alone -/

@[simp] theorem State.eraseUnused_buf (s : State) : s.eraseUnused.buf = s.buf := rfl
@[simp] theorem State.eraseUnused_count (s : State) : s.eraseUnused.count = s.count := rfl
@[simp] theorem State.eraseUnused_mot (s : State) : s.eraseUnused.mot = s.mot := rfl
@[simp] theorem State.eraseUnused_cfg (s : State) : s.eraseUnused.cfg = s.cfg.eraseUnused := rfl
@[simp] theorem State.eraseUnused_par (s : State) : s.eraseUnused.par = s.par := rfl
@[simp] theorem State.eraseUnused_res (s : State) : s.eraseUnused.res = s.res := rfl
@[simp] theorem State.eraseUnused_input (s : State) : s.eraseUnused.input = s.input := rfl
@[simp] theorem ConfigRegs.eraseUnused_pktMode (c : ConfigRegs) : c.eraseUnused.pktMode = c.pktMode := rfl

/-- Erasing twice is erasing once. -/
@[simp] theorem State.eraseUnused_eraseUnused (s : State) : s.eraseUnused.eraseUnused = s.eraseUnused := rfl

/-- The decoder reads the parameters and the framer's state, and no configuration (R71, R81). -/
@[simp] theorem State.decodeWord_eraseUnused (s : State) (w : PortWord) :
    s.eraseUnused.decodeWord w = s.decodeWord w := rfl

/-! ### The operations on the state commute with the erasure -/

theorem State.setMot_eraseUnused (s : State) (m : MotionState) :
    s.eraseUnused.setMot m = (s.setMot m).eraseUnused := rfl
theorem State.setRes_eraseUnused (s : State) (r : Results) :
    s.eraseUnused.setRes r = (s.setRes r).eraseUnused := rfl
theorem State.setCount_eraseUnused (s : State) (n : Fin 6) :
    s.eraseUnused.setCount n = (s.setCount n).eraseUnused := rfl
theorem State.applyStage_eraseUnused (s : State) (r : MotionState × List Event) :
    s.eraseUnused.applyStage r = (s.applyStage r).eraseUnused := rfl
theorem State.append_eraseUnused (s : State) (b : Byte) :
    s.eraseUnused.append b = (s.append b).eraseUnused := rfl
theorem State.expire_eraseUnused (s : State) : s.eraseUnused.expire = s.expire.eraseUnused := rfl
theorem State.dispatchRel4_eraseUnused (s : State) (p : Pkt4) (now : Clk) :
    s.eraseUnused.dispatchRel4 p now = (s.dispatchRel4 p now).eraseUnused := rfl

theorem State.expireIfDue_eraseUnused (s : State) (now : Clk) :
    s.eraseUnused.expireIfDue now = (s.expireIfDue now).eraseUnused := by
  unfold State.expireIfDue
  rw [State.eraseUnused_mot, State.expire_eraseUnused, apply_ite State.eraseUnused]

theorem State.dispatchAbs_eraseUnused (s : State) (p : Pkt6) (now : Clk) :
    s.eraseUnused.dispatchAbs p now = (s.dispatchAbs p now).eraseUnused := by
  simp only [State.dispatchAbs, State.eraseUnused_par, State.eraseUnused_cfg, State.eraseUnused_mot,
    classify_eraseUnused, State.applyStage_eraseUnused]

/-- An accepted byte commutes with the erasure: of the configuration, the length test reads `PKT_MODE` only (R103). -/
theorem State.accept_eraseUnused (s : State) (b : Byte) (t : Clk) :
    s.eraseUnused.accept b t = (s.accept b t).eraseUnused := by
  simp only [State.accept, State.eraseUnused_count, State.eraseUnused_cfg, ConfigRegs.eraseUnused_pktMode,
    State.append_eraseUnused, State.eraseUnused_buf, State.expireIfDue_eraseUnused,
    State.dispatchRel4_eraseUnused, State.dispatchAbs_eraseUnused, State.setCount_eraseUnused,
    apply_ite State.eraseUnused]

/-! ### Noninterference -/

/-- An operation does not observe the three registers: on the erased state it answers a next state where it does on the
state itself, and the two agree in everything but these registers. -/
def IgnoresUnused (f : State → Result) : Prop :=
  ∀ s t : State, f s = .next t → ∃ u, f s.eraseUnused = .next u ∧ u.eraseUnused = t.eraseUnused

/-- An operation that always answers, and whose answers on a state and on the erased state agree after erasure. -/
theorem IgnoresUnused.of_agrees {f : State → Result} {g : State → State} (hf : ∀ s, f s = .next (g s))
    (hg : ∀ s, (g s.eraseUnused).eraseUnused = (g s).eraseUnused) : IgnoresUnused f := by
  intro s t h
  rw [hf] at h
  cases h
  exact ⟨_, hf _, hg s⟩

/-- An operation that always answers, and writes none of the three registers: it commutes with the erasure. -/
theorem IgnoresUnused.of_commutes {f : State → Result} {g : State → State} (hf : ∀ s, f s = .next (g s))
    (hg : ∀ s, g s.eraseUnused = (g s).eraseUnused) : IgnoresUnused f :=
  .of_agrees hf fun s => by rw [hg, State.eraseUnused_eraseUnused]

/-- A choice by a condition that reads none of the three registers. -/
theorem IgnoresUnused.ite {p : State → Bool} {f g : State → Result} (hp : ∀ s, p s.eraseUnused = p s)
    (hf : IgnoresUnused f) (hg : IgnoresUnused g) : IgnoresUnused fun s => if p s then f s else g s := by
  intro s t h
  dsimp only at h ⊢
  rw [hp]
  split at h
  · next hc => rw [if_pos hc]; exact hf s t h
  · next hc => rw [if_neg hc]; exact hg s t h

theorem execFeed_ignoresUnused (b : Byte) (t : Clk) : IgnoresUnused (execFeed b t) := by
  refine .of_commutes (g := fun s => if s.count = 0 ∧ startClass s.par b ≠ .ok then s else s.accept b t)
    (fun s => ?_) fun s => ?_
  · rcases execFeed_cases b t s with ⟨h0, hc, h⟩ | ⟨hc, h⟩
    · rw [h, if_pos ⟨h0, hc⟩]
    · rw [h, if_neg fun ⟨h0, hn⟩ => hn (hc h0)]
  · simp only [State.eraseUnused_count, State.eraseUnused_par, State.accept_eraseUnused, apply_ite State.eraseUnused]

theorem execStartOk_ignoresUnused (b : Byte) : IgnoresUnused (execStartOk b) :=
  .ite (p := fun s => s.seeking && startClass s.par b == .ok) (fun _ => rfl)
    (.of_commutes (fun _ => rfl) fun _ => rfl) (.of_commutes (fun _ => rfl) fun _ => rfl)

theorem execTimerExpire_ignoresUnused : IgnoresUnused execTimerExpire :=
  .ite (p := fun s => s.mot.tapArmed) (fun _ => rfl)
    (.of_commutes (fun _ => rfl) State.expire_eraseUnused) (.of_commutes (fun _ => rfl) fun _ => rfl)

/-- No operation observes the three registers (R39, R40, R44). -/
theorem exec_ignoresUnused (i : Instr) : IgnoresUnused (exec i) := by
  cases i with
  | feed b t => exact execFeed_ignoresUnused b t
  | startOk b => exact execStartOk_ignoresUnused b
  | timerExpire => exact execTimerExpire_ignoresUnused
  | pktAbs6 p now => exact .of_commutes (fun _ => rfl) fun s => s.dispatchAbs_eraseUnused p now
  -- the stages that read the configuration
  | gTfentry x y z =>
    refine .of_commutes (fun _ => rfl) fun s => ?_
    rw [State.eraseUnused_cfg, stageTfEntry_eraseUnused, State.eraseUnused_mot, State.setMot_eraseUnused]
  | gWillscroll z region =>
    refine .of_commutes (fun _ => rfl) fun s => ?_
    rw [State.eraseUnused_cfg, willScrollFlag_eraseUnused, State.eraseUnused_res, State.setRes_eraseUnused]
  | gTfscroll x y now =>
    refine .of_commutes (fun _ => rfl) fun s => ?_
    rw [State.eraseUnused_cfg, stageTfScroll_eraseUnused, State.eraseUnused_mot, State.applyStage_eraseUnused]
  | gEdgescroll x y region now =>
    refine .of_commutes (fun _ => rfl) fun s => ?_
    rw [State.eraseUnused_cfg, stageEdgeScroll_eraseUnused, State.eraseUnused_mot, State.applyStage_eraseUnused]
  | gTapclick tap tapClick buttons now =>
    refine .of_commutes (fun _ => rfl) fun s => ?_
    rw [State.eraseUnused_cfg, State.eraseUnused_par, stageTapClick_eraseUnused, State.eraseUnused_mot,
      State.applyStage_eraseUnused]
  -- the operations that neither read nor write it
  | startAck | startBadhdr | pktRel4 | pktRel3 | decAbs | decRel3 | decRel4 | gRegion | gMove | gCommit | cfgwIgnored
  | evMotion | evScroll => exact .of_commutes (fun _ => rfl) fun _ => rfl
  -- the writes of a register that is not erased
  | modew | cfgwClicking | cfgwHscrollEn | cfgwVscrollEn | cfgwScrollAccelRaw | cfgwMaxTapTime =>
    exact .of_commutes (fun _ => rfl) fun _ => rfl
  -- the writes of an erased register: the value written is erased from the result
  | reset | cfgwDragging | cfgwDraglock | cfgwPointerAccelRaw => exact .of_agrees (fun _ => rfl) fun _ => rfl

/-- With an operation pending, a step is that operation (R53, R56). -/
theorem step_of_decoded {s : State} {w : PortWord} {rest : List PortWord} {i : Instr} (hi : s.input = w :: rest)
    (hd : s.decodeWord w = .ok i) : step s = exec i { s with input := rest } := by
  simp only [step, hi, hd]

/-- With none pending, a step is the timer's chance (R213 clause 3). -/
theorem step_of_input_nil {s : State} (hi : s.input = []) : step s = execTimerExpire s := by
  simp only [step, hi, exec]

theorem step_ignoresUnused : IgnoresUnused step := by
  intro s t h
  rcases step_cases h with ⟨hi, hx⟩ | ⟨w, rest, i, hi, hd, hx⟩
  · rw [step_of_input_nil (s.eraseUnused_input.trans hi)]
    exact execTimerExpire_ignoresUnused s t hx
  · rw [step_of_decoded (s.eraseUnused_input.trans hi) ((s.decodeWord_eraseUnused w).trans hd)]
    exact exec_ignoresUnused i { s with input := rest } t hx

/-- Settles O58: every operation ignores the three registers, and a step is one operation. -/
theorem unusedRegistersAreUnobservable : Obligations.UnusedRegistersAreUnobservable := step_ignoresUnused

end Sys2Proof.Machine
end

section
/-! The framing discard while SEEKING (40_framer R101): the bytes outside the class `START.OK` are the ones discarded,
and a discard answers the state it was given. -/

namespace Sys2Proof.Machine

/-- The bytes outside the class `START.OK` (R71). -/
theorem startClass_ne_ok_iff (par : Params) (b : Byte) :
    startClass par b ≠ .ok ↔ b = par.ackCode ∨ b &&& par.hdrMask ≠ par.hdrValue := by
  rcases startClass_cases par b with ⟨hack, h⟩ | ⟨hack, hhdr, h⟩ | ⟨hack, hhdr, h⟩
  · exact iff_of_true (by simp [h]) (.inl hack)
  · exact iff_of_false (by simp [h]) (by simp [hack, hhdr])
  · exact iff_of_true (by simp [h]) (.inr hhdr)

/-- The trace label of a discarded byte: the acknowledgment code is tested first (R71, R101). -/
theorem discardReason_of_ne_ok {par : Params} {b : Byte} (hb : startClass par b ≠ .ok) :
    discardReason par b = some (if b = par.ackCode then .discardAck else .discardHdr) := by
  rcases startClass_cases par b with ⟨hack, h⟩ | ⟨-, -, h⟩ | ⟨hack, -, h⟩
  · simp only [discardReason, h, if_pos hack]
  · exact absurd h hb
  · simp only [discardReason, h, if_neg hack]

/-- While SEEKING, a byte outside the class `START.OK` is discarded; no clock value is read (R100, R101). -/
theorem execFeed_of_discarded {s : State} {b : Byte} (t : Clk) (hc : s.count = 0) (hb : startClass s.par b ≠ .ok) :
    execFeed b t s = .next s := by
  rcases execFeed_cases b t s with ⟨-, -, h⟩ | ⟨hok, -⟩
  · exact h
  · exact absurd (hok hc) hb

/-- Settles O9: such a byte is outside the class `START.OK`, so `FEED` discards it, as the two discarding start classes
do in every state. -/
theorem discardedByteChangesNothing : Obligations.DiscardedByteChangesNothing := by
  intro s b t hc hb
  have hne : startClass s.par b ≠ .ok := (startClass_ne_ok_iff s.par b).2 hb
  exact ⟨execFeed_of_discarded t hc hne, discard_eq .discardAck s, discard_eq .discardHdr s,
    discardReason_of_ne_ok hne⟩

end Sys2Proof.Machine
end

section
/-! The absolute decoder (41_abs_decoder) and the bits of a packet that no decoder reads (30_encoding R77). A field of a
packet is a slice of a byte: each coordinate is two slices, one after the other, and each flag is one bit. Everything
below is said of the slices: their values as numbers, the slices that the encoder of R93 leaves in its bytes, and the
slices that a mask keeps. -/

namespace Sys2Proof.Machine

/-! ### Slices and bits of a word -/

/-- The value of two slices one after the other. -/
theorem toNat_append_eq_add {m n : Nat} (a : BitVec m) (b : BitVec n) :
    (a ++ b).toNat = b.toNat + 2 ^ n * a.toNat := by
  rw [BitVec.toNat_append, ← Nat.shiftLeft_add_eq_or_of_lt b.isLt, Nat.shiftLeft_eq]
  ring

/-- A bit of a byte, as arithmetic on the byte. -/
theorem byteBit_iff (b : Byte) (i : Nat) : byteBit b i = true ↔ b.toNat / 2 ^ i % 2 = 1 := by
  rw [byteBit, ← BitVec.testBit_toNat, Nat.testBit_eq_decide_div_mod_eq, decide_eq_true_iff]

/-- Bit 0 of a byte is its parity. -/
theorem byteBit_zero_iff (b : Byte) : byteBit b 0 = true ↔ b.toNat % 2 = 1 := by
  rw [byteBit_iff, pow_zero, Nat.div_one]

/-- Two words that agree under a mask agree on every slice that the mask keeps whole. -/
theorem extractLsb'_eq_of_and_eq {w start len : Nat} {mask a b : BitVec w}
    (hmask : mask.extractLsb' start len = BitVec.allOnes len) (h : a &&& mask = b &&& mask) :
    a.extractLsb' start len = b.extractLsb' start len := by
  simpa only [BitVec.extractLsb'_and, hmask, BitVec.and_allOnes] using congrArg (BitVec.extractLsb' start len) h

/-- Two bytes that agree under a mask agree on every bit of it. -/
theorem byteBit_eq_of_and_eq {mask a b : Byte} {i : Nat} (hmask : byteBit mask i = true)
    (h : a &&& mask = b &&& mask) : byteBit a i = byteBit b i := by
  unfold byteBit at hmask ⊢
  simpa only [BitVec.getLsbD_and, hmask, Bool.and_true] using congrArg (BitVec.getLsbD · i) h

/-! ### The fields of an absolute packet -/

/-- `x` is bits 3 to 6 of `p[2]`, then the low 7 bits of `p[1]` (R122). -/
theorem absX_eq_append (p : Pkt6) : absX p = p.p2.extractLsb' 3 4 ++ p.p1.extractLsb' 0 7 := by
  apply BitVec.eq_of_getLsbD_eq
  intro i hi
  refine Eq.trans ?_ BitVec.getLsbD_append.symm
  unfold absX
  interval_cases i <;> simp

/-- `y` is bits 4 to 6 of `p[3]`, then the low 7 bits of `p[4]` (R123). -/
theorem absY_eq_append (p : Pkt6) : absY p = p.p3.extractLsb' 4 3 ++ p.p4.extractLsb' 0 7 := by
  apply BitVec.eq_of_getLsbD_eq
  intro i hi
  refine Eq.trans ?_ BitVec.getLsbD_append.symm
  unfold absY
  interval_cases i <;> simp

theorem absX_toNat (p : Pkt6) : (absX p).toNat = p.p1.toNat % 128 + 128 * (p.p2.toNat / 8 % 16) := by
  rw [absX_eq_append, toNat_append_eq_add]
  simp only [BitVec.extractLsb'_toNat, Nat.shiftRight_eq_div_pow, Nat.reducePow, Nat.div_one]

theorem absY_toNat (p : Pkt6) : (absY p).toNat = p.p4.toNat % 128 + 128 * (p.p3.toNat / 16 % 8) := by
  rw [absY_eq_append, toNat_append_eq_add]
  simp only [BitVec.extractLsb'_toNat, Nat.shiftRight_eq_div_pow, Nat.reducePow, Nat.div_one]

/-- The button word as a number (R126). -/
theorem buttonsWord_toNat (left right middle : Bool) :
    (buttonsWord left right middle).toNat = left.toNat + 2 * right.toNat + 4 * middle.toNat := by
  cases left <;> cases right <;> cases middle <;> rfl

@[simp] theorem decodeAbs_x (p : Pkt6) : (decodeAbs p).x = absX p := rfl
@[simp] theorem decodeAbs_y (p : Pkt6) : (decodeAbs p).y = absY p := rfl
@[simp] theorem decodeAbs_z (p : Pkt6) : (decodeAbs p).z = p.p5 := rfl
@[simp] theorem decodeAbs_left (p : Pkt6) : (decodeAbs p).left = byteBit p.p3 0 := rfl
@[simp] theorem decodeAbs_right (p : Pkt6) : (decodeAbs p).right = byteBit p.p3 1 := rfl
@[simp] theorem decodeAbs_middle (p : Pkt6) : (decodeAbs p).middle = (byteBit p.p3 0 && byteBit p.p3 1) := rfl
@[simp] theorem decodeAbs_tap (p : Pkt6) : (decodeAbs p).tap = byteBit p.p2 1 := rfl
@[simp] theorem decodeAbs_tapClick (p : Pkt6) : (decodeAbs p).tapClick = byteBit p.p2 0 := rfl
@[simp] theorem decodeAbs_buttons (p : Pkt6) :
    (decodeAbs p).buttons = buttonsWord (decodeAbs p).left (decodeAbs p).right (decodeAbs p).middle := rfl

/-- `DEC.ABS` leaves the decoded sample in its latch and changes nothing else (R120, R121). -/
theorem exec_decAbs (p : Pkt6) (s : State) :
    exec (.decAbs p) s = .next { s with res := { s.res with sample := decodeAbs p } } := rfl

/-- Settles O25: the coordinates are the slices of R122 and R123 as numbers, each flag is its bit, and the latch is all
that changes. -/
theorem absolutePacketFieldsAreDecoded : Obligations.AbsolutePacketFieldsAreDecoded := by
  intro s p
  refine ⟨decodeAbs p, exec_decAbs p s, absX_toNat p, absY_toNat p, decodeAbs_z p, ?left, ?right, ?middle, ?tap,
    ?tapClick, ?buttons⟩
  case left => rw [decodeAbs_left, byteBit_zero_iff]
  case right => rw [decodeAbs_right, byteBit_iff, pow_one]
  case middle => rw [decodeAbs_middle, Bool.and_eq_true, decodeAbs_left, decodeAbs_right]
  case tap => rw [decodeAbs_tap, byteBit_iff, pow_one]
  case tapClick => rw [decodeAbs_tapClick, byteBit_zero_iff]
  case buttons => rw [decodeAbs_buttons, buttonsWord_toNat]

/-! ### The bytes of the encoder `ABS` -/

/-- The form of `p[2]` and `p[3]` in the encoder of R93: a coordinate's high bits at bit `k`, above two flags at bits 1
and 0. -/
def flaggedByte {n : Nat} (k : Nat) (field : BitVec n) (flag1 flag0 : Bool) : Byte :=
  (field.setWidth 8 <<< k) ||| ((BitVec.ofBool flag1).setWidth 8 <<< 1) ||| (BitVec.ofBool flag0).setWidth 8

/-- The field of a flagged byte, read back; the two flags do not reach it. -/
theorem flaggedByte_field {n k : Nat} (hk : 2 ≤ k) (hn : k + n ≤ 8) (field : BitVec n) (flag1 flag0 : Bool) :
    (flaggedByte k field flag1 flag0).extractLsb' k n = field := by
  apply BitVec.eq_of_getLsbD_eq
  intro i hi
  have hk0 : k ≠ 0 := by omega
  have hk1 : k + i - 1 ≠ 0 := by omega
  have h8 : k + i < 8 := by omega
  simp [flaggedByte, hk0, hk1, hi, h8]

/-- Bit 1 of a flagged byte. -/
theorem flaggedByte_bit_one {n k : Nat} (hk : 2 ≤ k) (field : BitVec n) (flag1 flag0 : Bool) :
    byteBit (flaggedByte k field flag1 flag0) 1 = flag1 := by
  have h : 1 < k := hk
  simp [byteBit, flaggedByte, h]

/-- Bit 0 of a flagged byte. -/
theorem flaggedByte_bit_zero {n k : Nat} (hk : 2 ≤ k) (field : BitVec n) (flag1 flag0 : Bool) :
    byteBit (flaggedByte k field flag1 flag0) 0 = flag0 := by
  have h : 0 < k := by omega
  simp [byteBit, flaggedByte, h]

/-- A word cut in two slices, put together again. -/
theorem append_extractLsb'_eq_self {m n : Nat} (v : BitVec (m + n)) :
    v.extractLsb' n m ++ v.extractLsb' 0 n = v := by
  rw [BitVec.extractLsb'_append_extractLsb'_eq_extractLsb' (Nat.zero_add n).symm, BitVec.extractLsb'_eq_self]

/-- The low 7 bits of a coordinate, in a byte of their own, read back. -/
theorem extractLsb'_setWidth_byte (v : BitVec 7) : (v.setWidth 8).extractLsb' 0 7 = v := by
  rw [← BitVec.setWidth_eq_extractLsb' (by decide), BitVec.setWidth_setWidth_of_le _ (by decide), BitVec.setWidth_eq]

section Encoder

variable (x : XCoord) (y : YCoord) (z : Byte) (left right tap tapClick : Bool) (b0 : Option Byte)

theorem asmAbs_p2 : (asmAbs x y z left right tap tapClick b0).p2 = flaggedByte 3 (x.extractLsb' 7 4) tap tapClick := rfl

theorem asmAbs_p3 : (asmAbs x y z left right tap tapClick b0).p3 = flaggedByte 4 (y.extractLsb' 7 3) right left := rfl

theorem absX_asmAbs : absX (asmAbs x y z left right tap tapClick b0) = x := by
  rw [absX_eq_append, asmAbs_p2, flaggedByte_field (by decide) (by decide)]
  exact (congrArg _ (extractLsb'_setWidth_byte _)).trans (append_extractLsb'_eq_self (m := 4) (n := 7) x)

theorem absY_asmAbs : absY (asmAbs x y z left right tap tapClick b0) = y := by
  rw [absY_eq_append, asmAbs_p3, flaggedByte_field (by decide) (by decide)]
  exact (congrArg _ (extractLsb'_setWidth_byte _)).trans (append_extractLsb'_eq_self (m := 3) (n := 7) y)

/-- The decoder inverts the encoder: every field is the one encoded, whatever the first byte (R93, R130). -/
theorem decodeAbs_asmAbs : decodeAbs (asmAbs x y z left right tap tapClick b0) =
    { x := x, y := y, z := z, left := left, right := right, middle := left && right, tap := tap, tapClick := tapClick,
      buttons := buttonsWord left right (left && right) } := by
  have hleft := flaggedByte_bit_zero (by decide : 2 ≤ 4) (y.extractLsb' 7 3) right left
  have hright := flaggedByte_bit_one (by decide : 2 ≤ 4) (y.extractLsb' 7 3) right left
  have htap := flaggedByte_bit_one (by decide : 2 ≤ 3) (x.extractLsb' 7 4) tap tapClick
  have htapClick := flaggedByte_bit_zero (by decide : 2 ≤ 3) (x.extractLsb' 7 4) tap tapClick
  simp only [decodeAbs, absX_asmAbs, absY_asmAbs, asmAbs_p2, asmAbs_p3, hleft, hright, htap, htapClick]
  rfl

end Encoder

/-- Settles O26: the sample left in the latch is the decoding of the encoder's bytes. -/
theorem absoluteEncoderRoundTrip : Obligations.AbsoluteEncoderRoundTrip := by
  intro x y z left right tap tapClick b0 s
  refine ⟨_, exec_decAbs _ s, ?_⟩
  rw [decodeAbs_asmAbs]
  exact ⟨rfl, rfl, rfl, rfl, rfl, rfl, rfl, rfl⟩

/-! ### The bits that no decoder reads -/

/-- The decoded sample is a function of the bits that R75 names. -/
theorem decodeAbs_eq_of_masked_eq {p q : Pkt6} (h1 : p.p1 &&& 0x7F = q.p1 &&& 0x7F) (h2 : p.p2 &&& 0x7B = q.p2 &&& 0x7B)
    (h3 : p.p3 &&& 0x73 = q.p3 &&& 0x73) (h4 : p.p4 &&& 0x7F = q.p4 &&& 0x7F) (h5 : p.p5 = q.p5) :
    decodeAbs p = decodeAbs q := by
  have hx : absX p = absX q := by
    rw [absX_eq_append, absX_eq_append, extractLsb'_eq_of_and_eq (by decide) h2,
      extractLsb'_eq_of_and_eq (by decide) h1]
  have hy : absY p = absY q := by
    rw [absY_eq_append, absY_eq_append, extractLsb'_eq_of_and_eq (by decide) h3,
      extractLsb'_eq_of_and_eq (by decide) h4]
  have hleft : byteBit p.p3 0 = byteBit q.p3 0 := byteBit_eq_of_and_eq (by decide) h3
  have hright : byteBit p.p3 1 = byteBit q.p3 1 := byteBit_eq_of_and_eq (by decide) h3
  have htap : byteBit p.p2 1 = byteBit q.p2 1 := byteBit_eq_of_and_eq (by decide) h2
  have htapClick : byteBit p.p2 0 = byteBit q.p2 0 := byteBit_eq_of_and_eq (by decide) h2
  simp only [decodeAbs, hx, hy, h5, hleft, hright, htap, htapClick]

/-- A relative packet reads its first byte by two sign bits and the buttons: bits 5 to 4 and 2 to 0 (R76). -/
theorem rel3Events_eq_of_masked_eq {p q : Pkt3} (now : Clk) (h0 : p.p0 &&& 0x37 = q.p0 &&& 0x37) (h1 : p.p1 = q.p1)
    (h2 : p.p2 = q.p2) : rel3Events p now = rel3Events q now := by
  have hxSign : byteBit p.p0 4 = byteBit q.p0 4 := byteBit_eq_of_and_eq (by decide) h0
  have hySign : byteBit p.p0 5 = byteBit q.p0 5 := byteBit_eq_of_and_eq (by decide) h0
  have hbtn : relBtn p.p0 = relBtn q.p0 := extractLsb'_eq_of_and_eq (by decide) h0
  simp only [rel3Events, relDx, relDy, hxSign, hySign, hbtn, h1, h2]

/-- The first event of a `PKT.REL4` is the one event of the `PKT.REL3` of its first three bytes (R137, R138). -/
theorem rel4Events_eq_append (p : Pkt4) (now : Clk) :
    rel4Events p now = rel3Events ⟨p.p0, p.p1, p.p2⟩ now ++ [.scroll (-relWheel p.p3) 0 now.toNat] := rfl

/-- The wheel reads the low 4 bits of `p[3]` only (R76). -/
theorem relWheel_eq_of_masked_eq {a b : Byte} (h : a &&& 0x0F = b &&& 0x0F) : relWheel a = relWheel b :=
  congrArg BitVec.toInt (extractLsb'_eq_of_and_eq (start := 0) (len := 4) (by decide) h)

theorem rel4Events_eq_of_masked_eq {p q : Pkt4} (now : Clk) (h0 : p.p0 &&& 0x37 = q.p0 &&& 0x37) (h1 : p.p1 = q.p1)
    (h2 : p.p2 = q.p2) (h3 : p.p3 &&& 0x0F = q.p3 &&& 0x0F) : rel4Events p now = rel4Events q now := by
  rw [rel4Events_eq_append, rel4Events_eq_append, relWheel_eq_of_masked_eq h3,
    rel3Events_eq_of_masked_eq (p := ⟨p.p0, p.p1, p.p2⟩) (q := ⟨q.p0, q.p1, q.p2⟩) now h0 h1 h2]

/-- `PKT.ABS6` reads the packet through its decoded sample only (R105). -/
theorem exec_pktAbs6 (p : Pkt6) (now : Clk) (s : State) :
    exec (.pktAbs6 p now) s = .next (s.applyStage (classify s.par s.cfg (decodeAbs p) now s.mot)) := rfl

/-- `PKT.REL4` reads the packet through its events only (R104, R139). -/
theorem exec_pktRel4 (p : Pkt4) (now : Clk) (s : State) :
    exec (.pktRel4 p now) s = .next (s.emit (rel4Events p now)) := rfl

/-- `PKT.REL3` reads the packet through its events only (R137). -/
theorem exec_pktRel3 (p : Pkt3) (now : Clk) (s : State) :
    exec (.pktRel3 p now) s = .next (s.emit (rel3Events p now)) := rfl

/-- Settles O27: an operation reads a packet through its sample or its events, which are functions of the
masked bytes. -/
theorem ignoredPacketBitsHaveNoEffect : Obligations.IgnoredPacketBitsHaveNoEffect := by
  intro s now
  refine ⟨?abs6, ?rel4, ?rel3⟩
  case abs6 =>
    intro p q h1 h2 h3 h4 h5
    have hsample := decodeAbs_eq_of_masked_eq h1 h2 h3 h4 h5
    exact ⟨by rw [exec_pktAbs6, exec_pktAbs6, hsample], by rw [exec_decAbs, exec_decAbs, hsample]⟩
  case rel4 =>
    intro p q h0 h1 h2 h3
    rw [exec_pktRel4, exec_pktRel4, rel4Events_eq_of_masked_eq now h0 h1 h2 h3]
  case rel3 =>
    intro p q h0 h1 h2
    rw [exec_pktRel3, exec_pktRel3, rel3Events_eq_of_masked_eq now h0 h1 h2]

end Sys2Proof.Machine
end

section
/-! The relative decoder (42_rel_decoder). The fields of a relative packet are sign-extended slices of its bytes, said here
as arithmetic on the bytes; the decoder's operations emit the events built from them, and a `FEED` that completes a packet
adds to that only the framer's own writes and a due button-up. -/

namespace Sys2Proof.Machine

/-! ### The fields of a relative packet -/

/-- The 9-bit sign extension: the sign bit weighs -256 (R8). -/
theorem sext9_eq (sign : Bool) (low : Byte) :
    sext9 sign low = (low.toNat : Int) - (if sign = true then 256 else 0) := by
  have hlow := low.isLt
  unfold sext9
  rw [BitVec.toInt_eq_toNat_cond, toNat_append_eq_add]
  cases sign
  · rw [if_pos (by simp; omega)]
    simp
  · rw [if_neg (by simp; omega)]
    simp
    omega

/-- `dxr`: its sign is bit 4 of `p[0]` (R76). -/
theorem relDx_eq (p0 p1 : Byte) :
    relDx p0 p1 = (p1.toNat : Int) - (if p0.toNat / 16 % 2 = 1 then 256 else 0) := by
  simp only [relDx, sext9_eq, byteBit_iff, Nat.reducePow]

/-- `dyr`: its sign is bit 5 of `p[0]` (R76). -/
theorem relDy_eq (p0 p2 : Byte) :
    relDy p0 p2 = (p2.toNat : Int) - (if p0.toNat / 32 % 2 = 1 then 256 else 0) := by
  simp only [relDy, sext9_eq, byteBit_iff, Nat.reducePow]

/-- `btn`: the low 3 bits of `p[0]` (R76, R142). -/
theorem relBtn_toNat (p0 : Byte) : (relBtn p0).toNat = p0.toNat % 8 := by
  rw [relBtn, BitVec.extractLsb'_toNat, Nat.shiftRight_zero]

/-- `w`: the low 4 bits of `p[3]`, bit 3 of them the sign (R76, R141). -/
theorem relWheel_eq (p3 : Byte) :
    relWheel p3 = ((p3.toNat % 16 : Nat) : Int) - (if p3.toNat % 16 < 8 then 0 else 16) := by
  have hslice : (p3.extractLsb' 0 4).toNat = p3.toNat % 16 := by
    rw [BitVec.extractLsb'_toNat, Nat.shiftRight_zero]
  rw [relWheel, BitVec.toInt_eq_toNat_cond, hslice]
  split <;> split <;> omega

/-! ### The decoder on its own and in a dispatch -/

/-- `DEC.REL4` is the dispatch of its packet (R104, R138). -/
theorem exec_decRel4 (p : Pkt4) (now : Clk) (s : State) :
    exec (.decRel4 p now) s = exec (.pktRel4 p now) s := rfl

/-- `DEC.REL3` is all that `PKT.REL3` does (R137). -/
theorem exec_decRel3 (p : Pkt3) (now : Clk) (s : State) :
    exec (.decRel3 p now) s = exec (.pktRel3 p now) s := rfl

/-- Settles O21: the events of the packet, with every field as arithmetic on the bytes; `emit` appends them and changes
nothing else. -/
theorem relativePacketOfFourBytesIsDecoded : Obligations.RelativePacketOfFourBytesIsDecoded := by
  intro s p now dx dy w
  have hpkt : exec (.pktRel4 p now) s =
      .next (s.emit [.motion dx (-dy) (relBtn p.p0) now.toNat, .scroll (-w) 0 now.toNat]) := by
    rw [exec_pktRel4, rel4Events, relDx_eq, relDy_eq, relWheel_eq]
  exact ⟨relBtn p.p0, relBtn_toNat p.p0, (exec_decRel4 p now s).trans hpkt, hpkt⟩

/-- Settles O22: as for four bytes, without the wheel. -/
theorem relativePacketOfThreeBytesIsDecoded : Obligations.RelativePacketOfThreeBytesIsDecoded := by
  intro s p now dx dy
  have hpkt : exec (.pktRel3 p now) s = .next (s.emit [.motion dx (-dy) (relBtn p.p0) now.toNat]) := by
    rw [exec_pktRel3, rel3Events, relDx_eq, relDy_eq]
  exact ⟨relBtn p.p0, relBtn_toNat p.p0, (exec_decRel3 p now s).trans hpkt, hpkt⟩

/-! ### The `FEED` that completes a relative packet -/

/-- The fourth byte in `REL4` mode: accepted whatever its value, a due button-up first, then the dispatch of the four
bytes, then `count` back at 0 (R103, R104, R108). -/
theorem exec_feed_completes_rel4 {s : State} (b : Byte) (t : Clk) (hcount : s.count.val = 3)
    (hmode : s.cfg.pktMode = .rel4) :
    exec (.feed b t) s =
      .next ((((s.append b).expireIfDue t).dispatchRel4 (s.append b).buf.pkt4 t).setCount 0) := by
  have haccept : exec (.feed b t) s = .next (s.accept b t) := by
    rcases execFeed_cases b t s with ⟨hzero, -, -⟩ | ⟨-, h⟩
    · exact absurd hcount (by simp [hzero])
    · exact h
  rcases State.accept_cases s b t with ⟨-, -, h⟩ | ⟨hfive, -⟩ | ⟨-, hnot, -⟩
  · rw [haccept, h]
  · omega
  · exact absurd ⟨hcount, hmode⟩ hnot

/-- The same byte where no button-up is due: MotionState and the configuration have no part in it (R139). -/
theorem exec_feed_completes_rel4_of_not_due {s : State} (b : Byte) (t : Clk) (hcount : s.count.val = 3)
    (hmode : s.cfg.pktMode = .rel4) (hdue : ¬(s.mot.tapArmed = true ∧ s.mot.tapDeadline ≤ t.toNat)) :
    exec (.feed b t) s = .next (((s.append b).dispatchRel4 (s.append b).buf.pkt4 t).setCount 0) := by
  rw [exec_feed_completes_rel4 b t hcount hmode, State.expireIfDue_of_not_due (s.append b) t hdue]

/-- Settles O23: a due button-up is the one write of MotionState; without it the state after the byte is built from
`buf` and `out` alone, on the replaced registers as on the old ones. -/
theorem relativePacketIgnoresTheClassifier : Obligations.RelativePacketIgnoresTheClassifier := by
  intro s u b t hcount hmode hexec
  refine ⟨fun hdue => ?_, fun hdue => ?_⟩
  · rw [exec_feed_completes_rel4 b t hcount hmode, State.expireIfDue_of_due (s.append b) t hdue] at hexec
    cases hexec
    rw [State.setCount_mot, State.dispatchRel4_mot, State.expire_mot, State.append_mot]
  · rw [exec_feed_completes_rel4_of_not_due b t hcount hmode hdue] at hexec
    cases hexec
    refine ⟨by rw [State.setCount_mot, State.dispatchRel4_mot, State.append_mot], fun m c hmode' hdue' => ?_⟩
    exact exec_feed_completes_rel4_of_not_due (s := { s with mot := m, cfg := c }) b t hcount hmode' hdue'

end Sys2Proof.Machine
end

section
/-! The stages of the classifier as operations of their own (43_gesture R158 to R176), read in the numbers and the
signs of the rules: each stage's case lemma, with its condition said as arithmetic. -/

namespace Sys2Proof.Machine

/-! ### Signs, counters and buttons -/

/-- `sgn` is the sign of an integer (R8). -/
theorem sgn_eq_sign (d : Int) : sgn d = d.sign := by
  unfold sgn
  split
  · next hneg => exact (Int.sign_eq_neg_one_of_neg hneg).symm
  · next hneg =>
    split
    · next hzero => rw [hzero, Int.sign_zero]
    · next hzero => exact (Int.sign_eq_one_of_pos (by omega)).symm

/-- `sat8` of the successor, as the word of its number (R8). -/
theorem satSucc_eq_ofNat (n : BitVec 8) : satSucc n = BitVec.ofNat 8 (min (n.toNat + 1) 255) := by
  rw [← satSucc_toNat, BitVec.ofNat_toNat, BitVec.setWidth_eq]

/-- The held button word sets bit 0 while `tapBtn` is 1 (R166). -/
theorem heldButtons_eq (m : MotionState) (b : Buttons) :
    heldButtons m b = if m.tapBtn = true then b ||| 1 else b := by
  unfold heldButtons Config.tapButton
  cases m.tapBtn
  · exact BitVec.or_zero
  · rfl

/-! ### The operations of the stages -/

theorem exec_gTfentry (x : XCoord) (y : YCoord) (z : Byte) (s : State) :
    exec (.gTfentry x y z) s = .next (s.setMot (stageTfEntry s.cfg x y z s.mot)) := rfl

theorem exec_gTfscroll (x : XCoord) (y : YCoord) (now : Clk) (s : State) :
    exec (.gTfscroll x y now) s = .next (s.applyStage (stageTfScroll s.cfg x y now s.mot)) := rfl

theorem exec_gEdgescroll (x : XCoord) (y : YCoord) (region : Region) (now : Clk) (s : State) :
    exec (.gEdgescroll x y region now) s = .next (s.applyStage (stageEdgeScroll s.cfg x y region now s.mot)) := rfl

theorem exec_gMove (x : XCoord) (y : YCoord) (tap : Bool) (buttons : Buttons) (now : Clk) (s : State) :
    exec (.gMove x y tap buttons now) s = .next (s.applyStage (stageMove s.par x y tap buttons now s.mot)) := rfl

theorem exec_gTapclick (tap tapClick : Bool) (buttons : Buttons) (now : Clk) (s : State) :
    exec (.gTapclick tap tapClick buttons now) s =
      .next (s.applyStage (stageTapClick s.par s.cfg tap tapClick buttons now s.mot)) := rfl

/-- A stage that emits nothing replaces MotionState only. -/
theorem State.applyStage_nil (s : State) (m : MotionState) : s.applyStage (m, []) = { s with mot := m } := by
  simp only [State.applyStage, State.setMot, State.emit, List.append_nil]

/-- A stage that leaves MotionState alone and emits nothing does nothing. -/
theorem State.setMot_self (s : State) : s.setMot s.mot = s := rfl

/-- Settles O29: the entry condition decides which of the two things stage 2 can do takes place. -/
theorem twoFingerEntryCapturesTheReference : Obligations.TwoFingerEntryCapturesTheReference := by
  intro s x y z
  rw [← twoFingerEntry_iff s.cfg z s.mot, exec_gTfentry]
  rcases stageTfEntry_cases s.cfg x y z s.mot with ⟨henters, h⟩ | ⟨henters, h⟩ <;> rw [h]
  · exact ⟨fun _ => rfl, fun hnot => absurd henters hnot⟩
  · refine ⟨fun hent => ?_, fun _ => by rw [State.setMot_self]⟩
    simp [henters] at hent

/-- Settles O31: the gate decides between one `SCROLL` with the reference re-anchored and the counter alone. -/
theorem twoFingerScrollIsGated : Obligations.TwoFingerScrollIsGated := by
  intro s x y now c
  rw [exec_gTfscroll]
  rcases stageTfScroll_cases s.cfg x y now s.mot with ⟨hopen, h⟩ | ⟨hshut, h⟩ <;> rw [h]
  · refine ⟨fun hlt => absurd hopen (not_le.2 hlt), fun _ => ?_⟩
    rw [sgn_eq_sign, sgn_eq_sign]
    rfl
  · refine ⟨fun _ => ?_, fun hle => absurd hshut (not_lt.2 hle)⟩
    rw [State.applyStage_nil, satSucc_eq_ofNat]

/-- The one delta and the mode of stage 6, where the tap flag and the warm-up are known (R166, R167). -/
theorem stageMove_of_moves {par : Params} {m : MotionState} (x : XCoord) (y : YCoord) (buttons : Buttons) (now : Clk)
    (hwarm : par.warmupPackets.toNat ≤ m.warmCount.toNat) :
    stageMove par x y true buttons now m =
      ({ m with touchMode := .move },
        [.motion (coordDiff x m.prevX) (coordDiff y m.prevY) (heldButtons m buttons) now.toNat]) := by
  have hdone : warmingUp par m = false := decide_eq_false (not_lt.2 hwarm)
  simp only [stageMove, hdone, Bool.not_false, Bool.and_self, if_true]

/-- Stage 6 without the tap flag, or within the warm-up, reports no motion (R166, R167). -/
theorem stageMove_of_still {par : Params} {m : MotionState} {tap : Bool} (x : XCoord) (y : YCoord) (buttons : Buttons)
    (now : Clk) (hstill : tap = false ∨ m.warmCount.toNat < par.warmupPackets.toNat) :
    stageMove par x y tap buttons now m =
      ({ m with touchMode := if tap then .move else m.touchMode },
        [.motion 0 0 (heldButtons m buttons) now.toNat]) := by
  obtain ⟨dx, dy, h, hzero⟩ := stageMove_eq par x y tap buttons now m
  obtain ⟨rfl, rfl⟩ := hzero hstill
  exact h

/-- Settles O33: the three rows are the two things stage 6 can report, with and without the tap flag. -/
theorem moveReportsTheFrameDelta : Obligations.MoveReportsTheFrameDelta := by
  intro s x y tap b now held
  have hheld : heldButtons s.mot b = held := heldButtons_eq s.mot b
  rw [exec_gMove]
  refine ⟨?warming, ?moving, ?untouched⟩
  case warming =>
    rintro rfl hwarm
    rw [stageMove_of_still x y b now (.inr hwarm), hheld]
    rfl
  case moving =>
    rintro rfl hwarm
    rw [stageMove_of_moves x y b now hwarm, hheld]
    rfl
  case untouched =>
    rintro rfl
    rw [stageMove_of_still x y b now (.inl rfl), hheld]
    rfl

/-- Settles O34: the asserted flag, the click and the release without one are the three things stage 7 can do; the end
of the touch follows a release either way. -/
theorem tapClickDecidesAtTheRelease : Obligations.TapClickDecidesAtTheRelease := by
  intro s tap b now clicks ended
  have hclicks : isClick s.cfg now s.mot = true ↔ clicks := isClick_iff s.cfg now s.mot
  rw [exec_gTapclick, exec_gTapclick]
  refine ⟨?asserted, ?released⟩
  case asserted =>
    rcases stageTapClick_cases s.par s.cfg tap true b now s.mot with ⟨-, h⟩ | ⟨hf, -⟩ | ⟨hf, -⟩
    · rw [h, State.applyStage_nil]
    · cases hf
    · cases hf
  case released =>
    rcases stageTapClick_cases s.par s.cfg tap false b now s.mot with ⟨hf, -⟩ | ⟨-, hclick, h⟩ | ⟨-, hclick, h⟩
    · cases hf
    · rw [h]
      exact ⟨fun _ => rfl, fun hnot => absurd (hclicks.1 hclick) hnot⟩
    · rw [h, State.applyStage_nil]
      exact ⟨fun hyes => absurd (hclicks.2 hyes) (by simp [hclick]), fun _ => rfl⟩

end Sys2Proof.Machine
end

section
/-! The invariants of `State.Inv` (10_state R48, 20_memory R53, 43_gesture R153). The bounds of the event fields come from
one bound on `SCALE` and one on a difference of coordinates; `tapBtn = tapArmed` is followed through the stages; the
packet buffer is written by an append only. Each operation on the state then keeps the invariants, and so does every
step. -/

namespace Sys2Proof.Machine

/-! ### Values that fit an event field -/

theorem fitsField_of_natAbs_lt {n : Int} (h : n.natAbs < 2147483648) : fitsField n := by
  unfold fitsField
  omega

theorem fitsField_zero : fitsField 0 := fitsField_of_natAbs_lt (by decide)

theorem fitsField_ite_zero {c : Prop} [Decidable c] {n : Int} (h : fitsField n) : fitsField (if c then n else 0) := by
  split
  · exact h
  · exact fitsField_zero

/-- A word of the port's width fits the field it is read into (R80). -/
theorem fitsField_toInt (v : BitVec 32) : fitsField v.toInt := by
  have hle := BitVec.le_toInt v
  have hlt := BitVec.toInt_lt (x := v)
  unfold fitsField
  omega

/-- A difference of two coordinates is smaller than their range (R152). -/
theorem coordDiff_natAbs_lt {w : Nat} (a b : BitVec w) : (coordDiff a b).natAbs < 2 ^ w := by
  have ha := a.isLt
  have hb := b.isLt
  unfold coordDiff
  omega

/-- The factor `A` is less than 2913: the largest `SCROLL_ACCEL_RAW` over 737280 (R206). -/
theorem accelFactor_num_le (raw : BitVec 32) : (accelFactor raw).1 ≤ 2913 * (accelFactor raw).2 := by
  have hraw := BitVec.toInt_lt (x := raw)
  unfold accelFactor Config.accelFloorInv Config.accelUnit
  split <;> omega

/-- Scaling multiplies the size of a delta by at most 2913 (R206, R207). -/
theorem scale_natAbs_le (cfg : ConfigRegs) (d : Int) : (scale cfg d).natAbs ≤ 2913 * d.natAbs := by
  have hnum := accelFactor_num_pos cfg.scrollAccelRaw
  have hden := accelFactor_den_pos cfg.scrollAccelRaw
  have hle := accelFactor_num_le cfg.scrollAccelRaw
  have hfactor : (accelFactor cfg.scrollAccelRaw).1.natAbs ≤ 2913 * (accelFactor cfg.scrollAccelRaw).2.natAbs := by omega
  rw [scale, Int.natAbs_tdiv, Int.natAbs_mul]
  refine Nat.div_le_of_le_mul ?_
  calc d.natAbs * (accelFactor cfg.scrollAccelRaw).1.natAbs
      ≤ d.natAbs * (2913 * (accelFactor cfg.scrollAccelRaw).2.natAbs) := Nat.mul_le_mul_left _ hfactor
    _ = (accelFactor cfg.scrollAccelRaw).2.natAbs * (2913 * d.natAbs) := by ring

/-- A delta of 11 bits, scaled, fits its field (R153). -/
theorem scale_fits (cfg : ConfigRegs) {d : Int} (hd : d.natAbs < 2048) : fitsField (scale cfg d) := by
  have hle := scale_natAbs_le cfg d
  exact fitsField_of_natAbs_lt (by omega)

theorem coordDiff_x_natAbs_lt (a b : XCoord) : (coordDiff a b).natAbs < 2048 := coordDiff_natAbs_lt a b

theorem coordDiff_y_natAbs_lt (a b : YCoord) : (coordDiff a b).natAbs < 2048 :=
  lt_trans (coordDiff_natAbs_lt a b) (by decide)

theorem sgn_natAbs_lt (d : Int) : (sgn d).natAbs < 2048 := by
  rw [sgn_eq_sign, Int.natAbs_sign]
  split <;> decide

/-! ### The events of the packets -/

theorem sext9_fits (sign : Bool) (low : Byte) : fitsField (sext9 sign low) ∧ fitsField (-sext9 sign low) := by
  have hlow := low.isLt
  rw [sext9_eq]
  unfold fitsField
  split <;> omega

theorem relWheel_neg_fits (p3 : Byte) : fitsField (-relWheel p3) := by
  rw [relWheel_eq]
  unfold fitsField
  split <;> omega

theorem rel3Events_fits (p : Pkt3) (now : Clk) : ∀ e ∈ rel3Events p now, e.fits := by
  obtain ⟨hdx, -⟩ := sext9_fits (byteBit p.p0 4) p.p1
  obtain ⟨-, hdy⟩ := sext9_fits (byteBit p.p0 5) p.p2
  exact List.forall_mem_singleton.2 ⟨hdx, hdy⟩

theorem rel4Events_fits (p : Pkt4) (now : Clk) : ∀ e ∈ rel4Events p now, e.fits := by
  rw [rel4Events_eq_append]
  exact List.forall_mem_append.2
    ⟨rel3Events_fits _ now, List.forall_mem_singleton.2 ⟨relWheel_neg_fits p.p3, fitsField_zero⟩⟩

theorem buttonUpEvents_fits (m : MotionState) : ∀ e ∈ buttonUpEvents m, e.fits :=
  List.forall_mem_singleton.2 ⟨fitsField_zero, fitsField_zero⟩

theorem stageTfScroll_fits (cfg : ConfigRegs) (x : XCoord) (y : YCoord) (now : Clk) (m : MotionState) :
    ∀ e ∈ (stageTfScroll cfg x y now m).2, e.fits := by
  rcases stageTfScroll_cases cfg x y now m with ⟨-, h⟩ | ⟨-, h⟩ <;> rw [h]
  · exact List.forall_mem_singleton.2 ⟨scale_fits cfg (sgn_natAbs_lt _), scale_fits cfg (sgn_natAbs_lt _)⟩
  · exact List.forall_mem_nil _

theorem stageEdgeScroll_fits (cfg : ConfigRegs) (x : XCoord) (y : YCoord) (region : Region) (now : Clk)
    (m : MotionState) : ∀ e ∈ (stageEdgeScroll cfg x y region now m).2, e.fits :=
  List.forall_mem_singleton.2
    ⟨fitsField_ite_zero (scale_fits cfg (coordDiff_y_natAbs_lt _ _)),
      fitsField_ite_zero (scale_fits cfg (coordDiff_x_natAbs_lt _ _))⟩

theorem stageMove_fits (par : Params) (x : XCoord) (y : YCoord) (tap : Bool) (buttons : Buttons) (now : Clk)
    (m : MotionState) : ∀ e ∈ (stageMove par x y tap buttons now m).2, e.fits :=
  List.forall_mem_singleton.2
    ⟨fitsField_ite_zero (fitsField_of_natAbs_lt (lt_trans (coordDiff_x_natAbs_lt _ _) (by decide))),
      fitsField_ite_zero (fitsField_of_natAbs_lt (lt_trans (coordDiff_y_natAbs_lt _ _) (by decide)))⟩

theorem stagePath_fits (par : Params) (cfg : ConfigRegs) (smp : Sample) (region : Region) (now : Clk)
    (m : MotionState) : ∀ e ∈ (stagePath par cfg smp region now m).2, e.fits := by
  rcases stagePath_cases par cfg smp region now m with ⟨-, h⟩ | ⟨-, -, h⟩ | ⟨-, -, h⟩ <;> rw [h]
  · exact stageTfScroll_fits cfg smp.x smp.y now m
  · exact stageEdgeScroll_fits cfg smp.x smp.y region now _
  · exact stageMove_fits par smp.x smp.y smp.tap smp.buttons now _

theorem stageTapClick_fits (par : Params) (cfg : ConfigRegs) (tap tapClick : Bool) (buttons : Buttons) (now : Clk)
    (m : MotionState) : ∀ e ∈ (stageTapClick par cfg tap tapClick buttons now m).2, e.fits := by
  rcases stageTapClick_cases par cfg tap tapClick buttons now m with ⟨-, h⟩ | ⟨-, -, h⟩ | ⟨-, -, h⟩ <;> rw [h]
  · exact List.forall_mem_nil _
  · exact List.forall_mem_singleton.2 ⟨fitsField_zero, fitsField_zero⟩
  · exact List.forall_mem_nil _

/-- Every event of an absolute packet fits its fields (R153). -/
theorem classify_fits (par : Params) (cfg : ConfigRegs) (smp : Sample) (now : Clk) (m : MotionState) :
    ∀ e ∈ (classify par cfg smp now m).2, e.fits :=
  List.forall_mem_append.2 ⟨stagePath_fits par cfg smp _ now _, stageTapClick_fits par cfg _ _ _ now _⟩

/-! ### The synthetic button through the stages -/

/-- The synthetic button is held exactly while its release is scheduled (R48). -/
def MotionState.HeldWhileArmed (m : MotionState) : Prop := m.tapBtn = m.tapArmed

theorem stageTfEntry_heldWhileArmed (cfg : ConfigRegs) (x : XCoord) (y : YCoord) (z : Byte) {m : MotionState}
    (h : m.HeldWhileArmed) : (stageTfEntry cfg x y z m).HeldWhileArmed := by
  obtain ⟨tf, rx, ry, he⟩ := stageTfEntry_frame cfg x y z m
  rw [he]
  exact h

theorem stagePath_heldWhileArmed (par : Params) (cfg : ConfigRegs) (smp : Sample) (region : Region) (now : Clk)
    {m : MotionState} (h : m.HeldWhileArmed) : (stagePath par cfg smp region now m).1.HeldWhileArmed := by
  obtain ⟨rx, ry, c, tm, he⟩ := stagePath_frame par cfg smp region now m
  rw [he]
  exact h

theorem endTouch_heldWhileArmed (tap : Bool) {m : MotionState} (h : m.HeldWhileArmed) :
    (endTouch tap m).HeldWhileArmed := by
  obtain ⟨tm, tf, he⟩ := endTouch_frame tap m
  rw [he]
  exact h

/-- A click presses the button and schedules its release together (R174). -/
theorem stageTapClick_heldWhileArmed (par : Params) (cfg : ConfigRegs) (tap tapClick : Bool) (buttons : Buttons)
    (now : Clk) {m : MotionState} (h : m.HeldWhileArmed) :
    (stageTapClick par cfg tap tapClick buttons now m).1.HeldWhileArmed := by
  rcases stageTapClick_cases par cfg tap tapClick buttons now m with ⟨-, he⟩ | ⟨-, -, he⟩ | ⟨-, -, he⟩ <;> rw [he]
  · exact h
  · exact endTouch_heldWhileArmed tap rfl
  · exact endTouch_heldWhileArmed tap h

/-- An absolute packet keeps `tapBtn = tapArmed`; the commit writes neither register (R180). -/
theorem classify_heldWhileArmed (par : Params) (cfg : ConfigRegs) (smp : Sample) (now : Clk) {m : MotionState}
    (h : m.HeldWhileArmed) : (classify par cfg smp now m).1.HeldWhileArmed :=
  stageTapClick_heldWhileArmed par cfg _ _ _ now
    (stagePath_heldWhileArmed par cfg smp _ now (stageTfEntry_heldWhileArmed cfg _ _ _ h))

/-! ### The operations on the state -/

section
variable {s : State}

theorem State.Inv.applyStage (h : s.Inv) {r : StageResult} (hm : r.1.HeldWhileArmed) (he : ∀ e ∈ r.2, e.fits) :
    (s.applyStage r).Inv := by
  obtain ⟨hwf, hbuf, -, hout⟩ := h
  exact ⟨hwf, hbuf, hm, List.forall_mem_append.2 ⟨hout, he⟩⟩

theorem State.Inv.setMot (h : s.Inv) {m : MotionState} (hm : m.HeldWhileArmed) : (s.setMot m).Inv := by
  obtain ⟨hwf, hbuf, -, hout⟩ := h
  exact ⟨hwf, hbuf, hm, hout⟩

theorem State.Inv.emit (h : s.Inv) {es : List Event} (he : ∀ e ∈ es, e.fits) : (s.emit es).Inv := by
  obtain ⟨hwf, hbuf, hm, hout⟩ := h
  exact ⟨hwf, hbuf, hm, List.forall_mem_append.2 ⟨hout, he⟩⟩

theorem State.Inv.heldWhileArmed (h : s.Inv) : s.mot.HeldWhileArmed := by
  obtain ⟨-, -, hm, -⟩ := h
  exact hm

/-- The invariants speak of `buf`, `count`, MotionState and the events only. -/
theorem State.Inv.of_eq {t : State} (h : s.Inv) (hbuf : t.buf = s.buf) (hcount : t.count = s.count)
    (hmot : t.mot = s.mot) (hout : t.out = s.out) : t.Inv := by
  unfold State.Inv State.buffered at h ⊢
  rwa [hbuf, hcount, hmot, hout]

theorem State.Inv.setCfg (h : s.Inv) (c : ConfigRegs) : (s.setCfg c).Inv := h.of_eq rfl rfl rfl rfl

theorem State.Inv.setRes (h : s.Inv) (r : Results) : (s.setRes r).Inv := h.of_eq rfl rfl rfl rfl

/-- With `count = 0` no byte of a packet in progress is asked for. -/
theorem State.Inv.setCount_zero (h : s.Inv) : (s.setCount 0).Inv := by
  obtain ⟨hwf, -, hm, hout⟩ := h
  exact ⟨hwf, fun a ha => absurd ha (Nat.not_lt_zero a), hm, hout⟩

/-- An append writes the byte at `count`, so all bytes up to it are written (R102). -/
theorem State.isSome_append_of_buffered (h : s.buffered) (b : Byte) {a : Nat} (ha : a < s.count.val + 1) :
    ((s.append b).buf.get? a).isSome = true := by
  rw [State.append_buf]
  by_cases heq : a = s.count.val
  · rw [heq, Memory.get?_write_same]
    rfl
  · rw [Memory.get?_write_other _ _ _ _ heq]
    exact h a (by omega)

/-- An append with `count` left as it is, or moved past the byte, keeps the invariants. -/
theorem State.Inv.append_setCount (h : s.Inv) (b : Byte) {n : Fin 6} (hn : n.val ≤ s.count.val + 1) :
    ((s.append b).setCount n).Inv := by
  obtain ⟨hwf, hbuf, hm, hout⟩ := h
  exact ⟨State.wf_append hwf b, fun a ha => State.isSome_append_of_buffered hbuf b (lt_of_lt_of_le ha hn), hm, hout⟩

theorem State.Inv.append (h : s.Inv) (b : Byte) : (s.append b).Inv :=
  h.append_setCount b (n := s.count) (Nat.le_succ _)

theorem State.Inv.expire (h : s.Inv) : s.expire.Inv := h.applyStage rfl (buttonUpEvents_fits s.mot)

theorem State.Inv.expireIfDue (h : s.Inv) (now : Clk) : (s.expireIfDue now).Inv := by
  rcases State.expireIfDue_cases s now with ⟨-, he⟩ | ⟨-, he⟩ <;> rw [he]
  · exact h.expire
  · exact h

theorem State.Inv.dispatchRel4 (h : s.Inv) (p : Pkt4) (now : Clk) : (s.dispatchRel4 p now).Inv :=
  h.emit (rel4Events_fits p now)

theorem State.Inv.dispatchAbs (h : s.Inv) (p : Pkt6) (now : Clk) : (s.dispatchAbs p now).Inv :=
  h.applyStage (classify_heldWhileArmed s.par s.cfg _ now h.heldWhileArmed) (classify_fits s.par s.cfg _ now s.mot)

/-- An accepted byte: the dispatch of a whole packet ends with `count = 0`, and any other byte is appended (R103). -/
theorem State.Inv.accept (h : s.Inv) (b : Byte) (t : Clk) : (s.accept b t).Inv := by
  rcases State.accept_cases s b t with ⟨-, -, he⟩ | ⟨-, he⟩ | ⟨-, -, he⟩ <;> rw [he]
  · exact (((h.append b).expireIfDue t).dispatchRel4 _ t).setCount_zero
  · exact (((h.append b).expireIfDue t).dispatchAbs _ t).setCount_zero
  · exact h.append_setCount b (Nat.mod_le _ _)

end

/-! ### Every operation, and every step -/

/-- An operation keeps the invariants. -/
def KeepsInv (f : State → Result) : Prop := ∀ s t : State, s.Inv → f s = .next t → t.Inv

/-- An operation that always answers keeps them if its answer has them. -/
theorem KeepsInv.of_next {f : State → Result} {g : State → State} (hf : ∀ s, f s = .next (g s))
    (hg : ∀ s, s.Inv → (g s).Inv) : KeepsInv f := by
  intro s t hs h
  rw [hf] at h
  cases h
  exact hg s hs

theorem execFeed_keepsInv (b : Byte) (t : Clk) : KeepsInv (execFeed b t) := by
  intro s u hs h
  rcases execFeed_cases b t s with ⟨-, -, he⟩ | ⟨-, he⟩ <;> rw [he] at h <;> cases h
  · exact hs
  · exact hs.accept b t

theorem execStartOk_keepsInv (b : Byte) : KeepsInv (execStartOk b) := by
  intro s u hs h
  rcases execStartOk_cases b s with ⟨-, -, he⟩ | he <;> rw [he] at h <;> cases h
  · exact hs.append_setCount b (n := 1) (Nat.le_add_left 1 _)
  · exact hs

theorem execTimerExpire_keepsInv : KeepsInv execTimerExpire := by
  intro s u hs h
  rcases execTimerExpire_cases s with ⟨-, he⟩ | ⟨-, he⟩ <;> rw [he] at h <;> cases h
  · exact hs.expire
  · exact hs

/-- `RESET` empties the packet in progress and releases the synthetic button; `buf` and the events stay (R260). -/
theorem execReset_keepsInv : KeepsInv execReset :=
  .of_next (fun _ => rfl) fun _ hs =>
    ((hs.setCount_zero.setMot (m := MotionState.reset) rfl).setCfg ConfigRegs.reset).setRes Results.reset

/-- Every operation keeps the invariants (R48, R53, R153). -/
theorem exec_keepsInv (i : Instr) : KeepsInv (exec i) := by
  cases i with
  | reset => exact execReset_keepsInv
  | feed b t => exact execFeed_keepsInv b t
  | startOk b => exact execStartOk_keepsInv b
  | timerExpire => exact execTimerExpire_keepsInv
  -- the packets and the decoders
  | pktRel4 p now | decRel4 p now => exact .of_next (fun _ => rfl) fun s hs => hs.dispatchRel4 p now
  | pktRel3 p now | decRel3 p now => exact .of_next (fun _ => rfl) fun s hs => hs.emit (rel3Events_fits p now)
  | pktAbs6 p now => exact .of_next (fun _ => rfl) fun s hs => hs.dispatchAbs p now
  -- the stages of the classifier
  | gTfentry x y z =>
    exact .of_next (fun _ => rfl) fun s hs => hs.setMot (stageTfEntry_heldWhileArmed s.cfg x y z hs.heldWhileArmed)
  | gTfscroll x y now =>
    refine .of_next (fun _ => rfl) fun s hs => hs.applyStage ?_ (stageTfScroll_fits s.cfg x y now s.mot)
    rcases stageTfScroll_cases s.cfg x y now s.mot with ⟨-, he⟩ | ⟨-, he⟩ <;> rw [he] <;> exact hs.heldWhileArmed
  | gEdgescroll x y region now =>
    exact .of_next (fun _ => rfl) fun s hs =>
      hs.applyStage hs.heldWhileArmed (stageEdgeScroll_fits s.cfg x y region now s.mot)
  | gMove x y tap buttons now =>
    exact .of_next (fun _ => rfl) fun s hs =>
      hs.applyStage hs.heldWhileArmed (stageMove_fits s.par x y tap buttons now s.mot)
  | gTapclick tap tapClick buttons now =>
    exact .of_next (fun _ => rfl) fun s hs =>
      hs.applyStage (stageTapClick_heldWhileArmed s.par s.cfg tap tapClick buttons now hs.heldWhileArmed)
        (stageTapClick_fits s.par s.cfg tap tapClick buttons now s.mot)
  | gCommit => exact .of_next (fun _ => rfl) fun s hs => hs.setMot hs.heldWhileArmed
  -- the operations that leave a result latch only, or nothing
  | decAbs | gRegion | gWillscroll => exact .of_next (fun _ => rfl) fun s hs => hs.setRes _
  | startAck | startBadhdr | cfgwIgnored => exact .of_next (fun _ => rfl) fun s hs => hs
  -- the configuration writes
  | modew | cfgwClicking | cfgwDragging | cfgwDraglock | cfgwHscrollEn | cfgwVscrollEn | cfgwScrollAccelRaw
  | cfgwPointerAccelRaw | cfgwMaxTapTime => exact .of_next (fun _ => rfl) fun s hs => hs.setCfg _
  -- the output events, whose fields are the port's words
  | evMotion dx dy =>
    exact .of_next (fun _ => rfl) fun s hs =>
      hs.emit (List.forall_mem_singleton.2 ⟨fitsField_toInt dx, fitsField_toInt dy⟩)
  | evScroll v h =>
    exact .of_next (fun _ => rfl) fun s hs =>
      hs.emit (List.forall_mem_singleton.2 ⟨fitsField_toInt v, fitsField_toInt h⟩)

/-- Settles O53: a step is one operation, on a state that differs from the old one in the script at most. -/
theorem everyStepKeepsTheInvariants : Obligations.EveryStepKeepsTheInvariants := by
  intro s t hs h
  rcases step_cases h with ⟨-, hx⟩ | ⟨w, rest, i, -, -, hx⟩
  · exact execTimerExpire_keepsInv s t hs hx
  · exact exec_keepsInv i { s with input := rest } t (hs.of_eq rfl rfl rfl rfl) hx

end Sys2Proof.Machine
end

section
/-! The whole classification of an absolute packet (43_gesture R150, R161, R178). The three paths are given by conditions
on the old state and the sample; the registers that the later stages keep are followed from the path to the commit. -/

namespace Sys2Proof.Machine

/-! ### The path of a packet, by the old state and the sample -/

section
variable {s : State} {smp : Sample} (now : Clk)

/-- MotionState as the choice of the path finds it: after stage 2 (R158). -/
def State.entered (s : State) (smp : Sample) : MotionState := stageTfEntry s.cfg smp.x smp.y smp.z s.mot

/-- The region of a sample on a state (R156). -/
def State.sampleRegion (s : State) (smp : Sample) : Region := regionOf s.mot.prevRegion smp.x smp.y

/-- The path a packet takes on a state, with the result of its stage (R161). -/
def State.path (s : State) (smp : Sample) (now : Clk) : StageResult :=
  stagePath s.par s.cfg smp (s.sampleRegion smp) now (s.entered smp)

/-- The debounce counter on the state after stage 2 (R163). -/
def State.debouncedEntry (s : State) (smp : Sample) : MotionState :=
  debounce (willScrollFlag s.cfg smp.z (s.sampleRegion smp)) (s.entered smp)

theorem State.entered_twoFinger_iff : (s.entered smp).twoFinger = true ↔ s.twoFingerAfterEntry smp :=
  stageTfEntry_twoFinger s smp

/-- Stage 2 leaves the mode to the path. -/
theorem State.entered_touchMode : (s.entered smp).touchMode = s.mot.touchMode := by
  obtain ⟨tf, rx, ry, h⟩ := stageTfEntry_frame s.cfg smp.x smp.y smp.z s.mot
  rw [State.entered, h]

theorem State.path_of_twoFinger (htf : s.twoFingerAfterEntry smp) :
    s.path smp now = stageTfScroll s.cfg smp.x smp.y now (s.entered smp) :=
  if_pos (State.entered_twoFinger_iff.2 htf)

theorem State.path_of_edgeScroll (htf : ¬s.twoFingerAfterEntry smp) (hedge : s.edgeScrollOn smp) :
    s.path smp now = stageEdgeScroll s.cfg smp.x smp.y (s.sampleRegion smp) now (s.debouncedEntry smp) :=
  (if_neg fun h => htf (State.entered_twoFinger_iff.1 h)).trans (if_pos ((edgeSelected_iff s smp).2 hedge))

theorem State.path_of_move (htf : ¬s.twoFingerAfterEntry smp) (hedge : ¬s.edgeScrollOn smp) :
    s.path smp now = stageMove s.par smp.x smp.y smp.tap smp.buttons now (s.debouncedEntry smp) :=
  (if_neg fun h => htf (State.entered_twoFinger_iff.1 h)).trans
    (if_neg fun h => hedge ((edgeSelected_iff s smp).1 h))

/-- The path does not write the two-finger flag (R159). -/
theorem State.path_twoFinger : (s.path smp now).1.twoFinger = (s.entered smp).twoFinger := by
  obtain ⟨rx, ry, c, tm, h⟩ := stagePath_frame s.par s.cfg smp (s.sampleRegion smp) now (s.entered smp)
  rw [State.path, h]

/-- Two-finger scroll does not write the mode (R162, R178). -/
theorem State.path_touchMode_of_twoFinger (htf : s.twoFingerAfterEntry smp) :
    (s.path smp now).1.touchMode = s.mot.touchMode := by
  rw [State.path_of_twoFinger now htf]
  rcases stageTfScroll_cases s.cfg smp.x smp.y now (s.entered smp) with ⟨-, h⟩ | ⟨-, h⟩ <;> rw [h] <;>
    exact State.entered_touchMode

end

/-! ### The end of a packet -/

/-- Stage 7 leaves `MULTI_TOUCH` with the tap-click flag, `NO_TOUCH` with neither flag, and the path's mode otherwise
(R172, R176). -/
theorem stageTapClick_touchMode (par : Params) (cfg : ConfigRegs) (tap tapClick : Bool) (buttons : Buttons) (now : Clk)
    (m : MotionState) : (stageTapClick par cfg tap tapClick buttons now m).1.touchMode =
      if tapClick then .multiTouch else if tap then m.touchMode else .noTouch := by
  rcases stageTapClick_cases par cfg tap tapClick buttons now m with ⟨rfl, h⟩ | ⟨rfl, -, h⟩ | ⟨rfl, -, h⟩ <;> rw [h]
  · rfl
  · cases tap <;> rfl
  · cases tap <;> rfl

/-- Stage 7 leaves two-finger mode on a packet with neither flag (R159, R176). -/
theorem stageTapClick_twoFinger (par : Params) (cfg : ConfigRegs) (tap tapClick : Bool) (buttons : Buttons) (now : Clk)
    (m : MotionState) :
    (stageTapClick par cfg tap tapClick buttons now m).1.twoFinger = (m.twoFinger && (tap || tapClick)) := by
  rcases stageTapClick_cases par cfg tap tapClick buttons now m with ⟨rfl, h⟩ | ⟨rfl, -, h⟩ | ⟨rfl, -, h⟩ <;> rw [h]
  · rw [Bool.or_true, Bool.and_true]
  · cases tap <;> simp [endTouch]
  · cases tap <;> simp [endTouch]

/-- The mode at the end of a packet is stage 7's on the path's (R178); the commit does not write it (R180). -/
theorem State.dispatchAbs_touchMode (s : State) (p : Pkt6) (now : Clk) :
    (s.dispatchAbs p now).mot.touchMode =
      if (decodeAbs p).tapClick then .multiTouch
      else if (decodeAbs p).tap then (s.path (decodeAbs p) now).1.touchMode else .noTouch :=
  stageTapClick_touchMode s.par s.cfg _ _ _ now (s.path (decodeAbs p) now).1

/-- The two-finger flag at the end of a packet is stage 7's on the path's; the commit does not write it (R180). -/
theorem State.dispatchAbs_twoFinger (s : State) (p : Pkt6) (now : Clk) :
    (s.dispatchAbs p now).mot.twoFinger =
      ((s.path (decodeAbs p) now).1.twoFinger && ((decodeAbs p).tap || (decodeAbs p).tapClick)) :=
  stageTapClick_twoFinger s.par s.cfg _ _ _ now (s.path (decodeAbs p) now).1

/-- Settles O37: stage 7's row of the flags, and under it the mode that the path leaves. -/
theorem touchModeFollowsItsTransitionTable : Obligations.TouchModeFollowsItsTransitionTable := by
  intro s p now
  refine ⟨s.dispatchAbs p now, exec_pktAbs6 p now s, fun hclick => ?_, fun hclick htap => ?_,
    fun hclick htap => ?path⟩
  · rw [State.dispatchAbs_touchMode, hclick, if_pos rfl]
  · rw [State.dispatchAbs_touchMode, hclick, htap]
    rfl
  case path =>
    have hpath : (s.dispatchAbs p now).mot.touchMode = (s.path (decodeAbs p) now).1.touchMode := by
      rw [State.dispatchAbs_touchMode, hclick, htap]
      rfl
    rw [hpath]
    refine ⟨State.path_touchMode_of_twoFinger now, fun htf hedge => ?_, fun htf hedge => ?_⟩
    · rw [State.path_of_edgeScroll now htf hedge]
      rfl
    · rw [State.path_of_move now htf hedge]
      exact if_pos htap

/-- Settles O39: stage 2 alone sets the flag, stage 7 alone clears it. -/
theorem twoFingerModeIsEnteredAndLeft : Obligations.TwoFingerModeIsEnteredAndLeft := by
  intro s p now
  refine ⟨s.dispatchAbs p now, exec_pktAbs6 p now s, ?_⟩
  rw [State.dispatchAbs_twoFinger, Bool.and_eq_true, Bool.or_eq_true, State.path_twoFinger,
    State.entered_twoFinger_iff]

/-! ### The stages run as operations -/

/-- The debounce counter of the dispatch, on a state whose latch holds `willScroll`: updated outside two-finger mode
(R163, log entry 9). -/
def State.debounced (s : State) : State :=
  if s.mot.twoFinger = true then s else s.setMot (debounce s.res.willScroll s.mot)

theorem State.debounced_eq (s : State) :
    s.debounced = if s.mot.twoFinger = true then s else { s with mot := { s.mot with
      cnt := if s.res.willScroll = true then BitVec.ofNat 8 (min (s.mot.cnt.toNat + 1) 255) else 0 } } := by
  rw [State.debounced, debounce, satSucc_eq_ofNat]
  rfl

/-- The operation of the path chosen on a state whose latch holds `willScroll` (R161). -/
def State.pathOperation (s : State) (smp : Sample) (region : Region) (now : Clk) : Instr :=
  if s.mot.twoFinger = true then .gTfscroll smp.x smp.y now
  else if s.res.willScroll = true ∧ (21 < s.debounced.mot.cnt.toNat ∨ s.debounced.mot.touchMode = .vScroll) then
    .gEdgescroll smp.x smp.y region now
  else .gMove smp.x smp.y smp.tap smp.buttons now

/-- The chosen operation, run after the debounce counter, is the classifier's choice of a path (R161, R163). -/
theorem exec_pathOperation {s : State} {smp : Sample} {region : Region} (now : Clk)
    (hlatch : s.res.willScroll = willScrollFlag s.cfg smp.z region) :
    exec (s.pathOperation smp region now) s.debounced =
      .next (s.applyStage (stagePath s.par s.cfg smp region now s.mot)) := by
  have hdebounced (htf : s.mot.twoFinger = false) :
      s.debounced = s.setMot (debounce (willScrollFlag s.cfg smp.z region) s.mot) := by
    rw [State.debounced, hlatch, htf]
    rfl
  unfold State.pathOperation
  rcases stagePath_cases s.par s.cfg smp region now s.mot with ⟨htf, h⟩ | ⟨htf, hedge, h⟩ | ⟨htf, hedge, h⟩ <;> rw [h]
  · rw [if_pos htf, exec_gTfscroll, State.debounced, if_pos htf]
  · have hsel := (edgeSelected_iff_counter _ _).1 hedge
    rw [hdebounced htf, State.setMot_mot, hlatch, if_neg (by simp [htf]), if_pos hsel, exec_gEdgescroll]
    rfl
  · have hsel := fun hc => Bool.eq_false_iff.1 hedge ((edgeSelected_iff_counter _ _).2 hc)
    rw [hdebounced htf, State.setMot_mot, hlatch, if_neg (by simp [htf]), if_neg hsel, exec_gMove]
    rfl

/-- The state after stages 1 to 3: MotionState as stage 2 leaves it, the latches as the operations leave them (R150; log
entry 7). -/
def State.beforePath (s : State) (smp : Sample) : State :=
  (s.setMot (s.entered smp)).setRes ⟨smp, s.sampleRegion smp, willScrollFlag s.cfg smp.z (s.sampleRegion smp)⟩

/-- Two stages one after the other are one stage with the events of both, in order (R235). -/
theorem State.applyStage_applyStage (s : State) (r q : StageResult) :
    (s.applyStage r).applyStage q = s.applyStage (q.1, r.2 ++ q.2) := by
  simp only [State.applyStage, State.setMot, State.emit, List.append_assoc]

/-- The dispatch of an absolute packet is the path, stage 7 and stage 8 on the state after stages 1 to 3, with the
latches put back (R105, R150). -/
theorem State.dispatchAbs_eq_stages (s : State) (p : Pkt6) (now : Clk) :
    let smp := decodeAbs p
    let s6 := (s.beforePath smp).applyStage (s.path smp now)
    let s7 := s6.applyStage (stageTapClick s.par s.cfg smp.tap smp.tapClick smp.buttons now s6.mot)
    s.dispatchAbs p now =
      (s7.setMot (stageCommit smp.x smp.y smp.z (s.sampleRegion smp) smp.tap smp.tapClick smp.buttons
        s7.mot)).setRes s.res := by
  intro smp s6 s7
  have hs7 : s7 = (s.beforePath smp).applyStage
      ((stageTapClick s.par s.cfg smp.tap smp.tapClick smp.buttons now s6.mot).1,
        (s.path smp now).2 ++ (stageTapClick s.par s.cfg smp.tap smp.tapClick smp.buttons now s6.mot).2) :=
    State.applyStage_applyStage _ _ _
  rw [hs7]
  rfl

/-- Settles O36: each stage as an operation answers by definition, the path by `exec_pathOperation`. -/
theorem absolutePacketRunsItsStagesInOrder : Obligations.AbsolutePacketRunsItsStagesInOrder := by
  intro s p now
  have hpath := exec_pathOperation (s := s.beforePath (decodeAbs p)) (smp := decodeAbs p)
    (region := s.sampleRegion (decodeAbs p)) now rfl
  exact ⟨_, _, _, s.beforePath (decodeAbs p), (s.beforePath (decodeAbs p)).debounced, _, _, _, rfl, rfl, rfl, rfl,
    State.debounced_eq _, hpath, rfl, rfl,
    (exec_pktAbs6 p now s).trans (congrArg _ (State.dispatchAbs_eq_stages s p now))⟩

/-! ### The warm-up -/

/-- An event reports no motion: a `SCROLL`, or a `MOTION` with the delta (0, 0). -/
def Event.Still : Event → Prop
  | .motion dx dy _ _ => dx = 0 ∧ dy = 0
  | .scroll _ _ _ => True

/-- During the warm-up no path reports motion (R167). -/
theorem stagePath_still {par : Params} {m : MotionState} (cfg : ConfigRegs) (smp : Sample) (region : Region) (now : Clk)
    (hwarm : m.warmCount.toNat < par.warmupPackets.toNat) : ∀ e ∈ (stagePath par cfg smp region now m).2, e.Still := by
  rcases stagePath_cases par cfg smp region now m with ⟨-, h⟩ | ⟨-, -, h⟩ | ⟨-, -, h⟩ <;> rw [h]
  · rcases stageTfScroll_cases cfg smp.x smp.y now m with ⟨-, h⟩ | ⟨-, h⟩ <;> rw [h]
    · exact List.forall_mem_singleton.2 trivial
    · exact List.forall_mem_nil _
  · exact List.forall_mem_singleton.2 trivial
  · rw [stageMove_of_still (m := debounce _ m) _ _ _ _ (.inr hwarm)]
    exact List.forall_mem_singleton.2 ⟨rfl, rfl⟩

/-- A click's button-down reports no motion (R174). -/
theorem stageTapClick_still (par : Params) (cfg : ConfigRegs) (tap tapClick : Bool) (buttons : Buttons) (now : Clk)
    (m : MotionState) : ∀ e ∈ (stageTapClick par cfg tap tapClick buttons now m).2, e.Still := by
  rcases stageTapClick_cases par cfg tap tapClick buttons now m with ⟨-, h⟩ | ⟨-, -, h⟩ | ⟨-, -, h⟩ <;> rw [h]
  · exact List.forall_mem_nil _
  · exact List.forall_mem_singleton.2 ⟨rfl, rfl⟩
  · exact List.forall_mem_nil _

theorem stageTfEntry_warmCount (cfg : ConfigRegs) (x : XCoord) (y : YCoord) (z : Byte) (m : MotionState) :
    (stageTfEntry cfg x y z m).warmCount = m.warmCount := by
  obtain ⟨tf, rx, ry, h⟩ := stageTfEntry_frame cfg x y z m
  rw [h]

theorem stagePath_warmCount (par : Params) (cfg : ConfigRegs) (smp : Sample) (region : Region) (now : Clk)
    (m : MotionState) : (stagePath par cfg smp region now m).1.warmCount = m.warmCount := by
  obtain ⟨rx, ry, c, tm, h⟩ := stagePath_frame par cfg smp region now m
  rw [h]

theorem endTouch_warmCount (tap : Bool) (m : MotionState) : (endTouch tap m).warmCount = m.warmCount := by
  obtain ⟨tm, tf, h⟩ := endTouch_frame tap m
  rw [h]

theorem stageTapClick_warmCount (par : Params) (cfg : ConfigRegs) (tap tapClick : Bool) (buttons : Buttons) (now : Clk)
    (m : MotionState) : (stageTapClick par cfg tap tapClick buttons now m).1.warmCount = m.warmCount := by
  rcases stageTapClick_cases par cfg tap tapClick buttons now m with ⟨-, h⟩ | ⟨-, -, h⟩ | ⟨-, -, h⟩ <;> rw [h]
  · exact endTouch_warmCount tap _
  · exact endTouch_warmCount tap m

/-- The commit alone writes the warm-up count: a packet with the tap flag is counted, one without starts again (R180). -/
theorem classify_warmCount (par : Params) (cfg : ConfigRegs) (smp : Sample) (now : Clk) (m : MotionState) :
    (classify par cfg smp now m).1.warmCount = if smp.tap then satSucc m.warmCount else 0 := by
  simp only [classify, stageCommit, stageTapClick_warmCount, stagePath_warmCount, stageTfEntry_warmCount]

/-- One packet of the warm-up: it reports no motion, and is counted (R167). -/
theorem State.dispatchAbs_warmingUp {s : State} {p : Pkt6} (now : Clk)
    (hwarm : s.mot.warmCount.toNat < s.par.warmupPackets.toNat) (htap : (decodeAbs p).tap = true) :
    (s.dispatchAbs p now).mot.warmCount.toNat = s.mot.warmCount.toNat + 1 ∧
    ∃ es, (s.dispatchAbs p now).out = s.out ++ es ∧ ∀ e ∈ es, e.Still := by
  have hmax := s.par.warmupPackets.isLt
  refine ⟨?count, _, State.dispatchAbs_out s p now, ?still⟩
  case count =>
    rw [State.dispatchAbs_mot, classify_warmCount, if_pos htap, satSucc_toNat]
    omega
  case still =>
    exact List.forall_mem_append.2
      ⟨stagePath_still s.cfg _ _ now (m := s.entered (decodeAbs p)) (by rwa [State.entered, stageTfEntry_warmCount]),
        stageTapClick_still s.par s.cfg _ _ _ now _⟩

/-- Packets with the tap flag, as many as the warm-up still lacks, report no motion (R167). -/
theorem packetAll_warmingUp (ps : List (Pkt6 × Clk)) (s : State)
    (hwarm : s.mot.warmCount.toNat + ps.length ≤ s.par.warmupPackets.toNat)
    (htap : ∀ p ∈ ps, (decodeAbs p.1).tap = true) :
    ∃ t es, packetAll ps s = .next t ∧ t.out = s.out ++ es ∧
      t.mot.warmCount.toNat = s.mot.warmCount.toNat + ps.length ∧ ∀ e ∈ es, e.Still := by
  induction ps generalizing s with
  | nil => exact ⟨s, [], rfl, (List.append_nil _).symm, rfl, List.forall_mem_nil _⟩
  | cons p ps ih =>
    obtain ⟨htapHead, htapTail⟩ := List.forall_mem_cons.1 htap
    rw [List.length_cons] at hwarm
    obtain ⟨hcount, es, hout, hstill⟩ := State.dispatchAbs_warmingUp (s := s) (p := p.1) p.2 (by omega) htapHead
    obtain ⟨t, fs, hrun, hout', hcount', hstill'⟩ :=
      ih (s.dispatchAbs p.1 p.2) (by rw [hcount, State.dispatchAbs_par]; omega) htapTail
    refine ⟨t, es ++ fs, hrun, ?_, ?_, List.forall_mem_append.2 ⟨hstill, hstill'⟩⟩
    · rw [hout', hout, List.append_assoc]
    · rw [hcount', hcount, List.length_cons]
      omega

/-- Settles O43: with `warmCount` 0 the whole warm-up is still to come. -/
theorem firstPacketsOfATouchReportNoMotion : Obligations.FirstPacketsOfATouchReportNoMotion := by
  intro ps s hzero hlen htap
  have hcount : s.mot.warmCount.toNat = 0 := by rw [hzero]; rfl
  obtain ⟨t, es, hrun, hout, hwarm, hstill⟩ := packetAll_warmingUp ps s (by omega) htap
  exact ⟨t, es, hrun, hout, by rw [hwarm, hcount, Nat.zero_add], fun _ _ _ _ he => hstill _ he⟩

end Sys2Proof.Machine
end

section
/-! The configuration writes, `SCALE` and the scheduled button-up (44_config_timer R202 to R212). `SCALE` is compared
with the rationals: the model's fraction is the spec's factor, floors answer for the nonnegative deltas, and oddness
carries everything over to the others. -/

namespace Sys2Proof.Machine

/-! ### The mode write and the configuration writes -/

/-- A 1-bit register receives whether the value, as a number, is not 0 (R81). -/
theorem cfgBool_eq_decide_toNat (v : BitVec 64) : cfgBool v = decide (v.toNat ≠ 0) :=
  decide_eq_decide.2 (not_congr BitVec.toNat_inj.symm)

/-- A signed register receives the low 32 bits (R81). -/
theorem cfgS32_eq_ofNat (v : BitVec 64) : cfgS32 v = BitVec.ofNat 32 v.toNat :=
  (BitVec.ofNat_toNat 32 v).symm

/-- Settles O44: the operation replaces the configuration by one with another `PKT_MODE`. -/
theorem modeWriteSetsTheModeOnly : Obligations.ModeWriteSetsTheModeOnly := fun _ _ => rfl

/-- Settles O45: the operation of each register replaces that one register; only the stored value is to be read as a
number, for the 1-bit and the signed ones. -/
theorem configurationWriteSetsItsRegisterOnly : Obligations.ConfigurationWriteSetsItsRegisterOnly := by
  intro s r v
  rw [← cfgBool_eq_decide_toNat, ← cfgS32_eq_ofNat]
  exact ⟨rfl, rfl, rfl, rfl, rfl, rfl, rfl, rfl, rfl⟩

/-! ### The scheduled button-up -/

/-- `State.expire` as one record: the two fields cleared and the one event appended (R212). -/
theorem State.expire_eq (s : State) : s.expire = { s with
    mot := { s.mot with tapBtn := false, tapArmed := false }
    out := s.out ++ [.motion 0 0 s.mot.lastButtons s.mot.tapDeadline] } := rfl

/-- Settles O48: with the button-up scheduled, `TIMER.EXPIRE` is `State.expire`. -/
theorem timerReleasesTheSyntheticButton : Obligations.TimerReleasesTheSyntheticButton := by
  intro s harmed
  rw [← State.expire_eq]
  rcases execTimerExpire_cases s with ⟨-, h⟩ | ⟨hidle, -⟩
  · exact h
  · exact absurd harmed (by simp [hidle])

/-! ### `SCALE` over the rationals -/

/-- The factor `A` as R206 writes it. -/
def accelRatio (raw : BitVec 32) : ℚ := max ((raw.toInt : ℚ) / 1966.08 / 375.0) 0.01

/-- The model's fraction is the factor `A`: below `raw` = 7372.8 both are 1/100, from there on both are raw/737280
(R206). -/
theorem accelFactor_div_eq_accelRatio (raw : BitVec 32) :
    ((accelFactor raw).1 : ℚ) / (accelFactor raw).2 = accelRatio raw := by
  have hunit : (raw.toInt : ℚ) / 1966.08 / 375.0 = raw.toInt / 737280 := by
    rw [div_div]
    norm_num
  rw [accelRatio, hunit, accelFactor]
  unfold Config.accelFloorInv Config.accelUnit
  split
  · next hfloored =>
    have hlt : (raw.toInt : ℚ) * 100 < 737280 := by exact_mod_cast hfloored
    rw [max_eq_right (by linarith)]
    norm_num
  · next hlarge =>
    have hle : (737280 : ℚ) ≤ raw.toInt * 100 := by exact_mod_cast not_lt.1 hlarge
    rw [max_eq_left (by linarith)]
    norm_num

theorem accelRatio_pos (raw : BitVec 32) : 0 < accelRatio raw := lt_max_of_lt_right (by norm_num)

theorem scale_zero (cfg : ConfigRegs) : scale cfg 0 = 0 := by
  rw [scale, zero_mul, Int.zero_tdiv]

/-- `SCALE` is odd (R207). -/
theorem scale_neg (cfg : ConfigRegs) (d : Int) : scale cfg (-d) = -scale cfg d := by
  rw [scale, neg_mul, Int.neg_tdiv, scale]

/-- On a nonnegative delta truncation is the floor (R207). -/
theorem scale_eq_floor (cfg : ConfigRegs) {d : Int} (hd : 0 ≤ d) :
    scale cfg d = ⌊(d : ℚ) * accelRatio cfg.scrollAccelRaw⌋ := by
  have hnum := accelFactor_num_pos cfg.scrollAccelRaw
  have hden := accelFactor_den_pos cfg.scrollAccelRaw
  rw [← accelFactor_div_eq_accelRatio, scale, Int.tdiv_eq_ediv_of_nonneg (mul_nonneg hd hnum.le)]
  obtain ⟨n, hn⟩ := Int.eq_ofNat_of_zero_le hden.le
  rw [hn, Int.cast_natCast, ← mul_div_assoc, ← Int.cast_mul, Rat.floor_intCast_div_natCast]

/-- On a nonpositive delta truncation is the ceiling (R207). -/
theorem scale_eq_ceil (cfg : ConfigRegs) {d : Int} (hd : d ≤ 0) :
    scale cfg d = ⌈(d : ℚ) * accelRatio cfg.scrollAccelRaw⌉ := by
  have hfloor := scale_eq_floor cfg (Int.neg_nonneg_of_nonpos hd)
  rw [scale_neg, Int.cast_neg, neg_mul, Int.floor_neg] at hfloor
  exact neg_injective hfloor

/-- A scaled nonnegative delta lies between 0 and the exact product. -/
theorem abs_scale_le_of_nonneg (cfg : ConfigRegs) {d : Int} (hd : 0 ≤ d) :
    |(scale cfg d : ℚ)| ≤ |(d : ℚ)| * accelRatio cfg.scrollAccelRaw := by
  have hdq : (0 : ℚ) ≤ d := Int.cast_nonneg hd
  have hproduct := mul_nonneg hdq (accelRatio_pos cfg.scrollAccelRaw).le
  have hscale : (0 : ℚ) ≤ scale cfg d := by
    rw [scale_eq_floor cfg hd]
    exact Int.cast_nonneg (Int.floor_nonneg.2 hproduct)
  rw [abs_of_nonneg hscale, abs_of_nonneg hdq, scale_eq_floor cfg hd]
  exact Int.floor_le _

/-- Scaling never exceeds the exact product (R207). -/
theorem abs_scale_le (cfg : ConfigRegs) (d : Int) :
    |(scale cfg d : ℚ)| ≤ |(d : ℚ)| * accelRatio cfg.scrollAccelRaw := by
  rcases le_total 0 d with hd | hd
  · exact abs_scale_le_of_nonneg cfg hd
  · have hneg := abs_scale_le_of_nonneg cfg (Int.neg_nonneg_of_nonpos hd)
    rwa [scale_neg, Int.cast_neg, Int.cast_neg, abs_neg, abs_neg] at hneg

/-- Settles O47: the floor, the ceiling and the three named properties of R207, each a lemma above. -/
theorem scaleIsTheTruncatedProduct : Obligations.ScaleIsTheTruncatedProduct := fun cfg d =>
  ⟨scale_eq_floor cfg, scale_eq_ceil cfg, scale_zero cfg, scale_neg cfg d, abs_scale_le cfg d⟩

end Sys2Proof.Machine
end

section
/-! Reset (70_reset R260). Both register banks take their fixed reset values and the framer returns to SEEKING; the
table of 10_state R47 is then read off the two banks. -/

namespace Sys2Proof.Machine

/-- `RESET` replaces the registers and the count, and takes nothing else from the state but what it keeps (R260). -/
theorem exec_reset (s : State) :
    exec .reset s = .next ((((s.setCount 0).setMot .reset).setCfg .reset).setRes .reset) := rfl

/-- Settles O7: the next state's MotionState and configuration are the reset ones, whose fields are the rows of R47. -/
theorem resetGivesTheTableOfResetValues : Obligations.ResetGivesTheTableOfResetValues := fun s =>
  ⟨_, exec_reset s, by simp [MotionState.reset, ConfigRegs.reset]⟩

end Sys2Proof.Machine
end

section
/-! The words on the ports (30_encoding R71, R81). Encoding is inverted by the frozen family `WordDecodes`; the converse
takes a word that decodes apart by its port, and reads its bytes back from the operation. -/

namespace Sys2Proof

/-! ### Numbers and their bytes -/

/-- Bytes put together to a number, and taken apart again. -/
theorem leBytes_leNat (bs : List Byte) : leBytes bs.length (leNat bs) = bs := by
  induction bs with
  | nil => rfl
  | cons b bs ih =>
    have hb := b.isLt
    have hlow : BitVec.ofNat 8 (b.toNat + 256 * leNat bs) = b :=
      BitVec.eq_of_toNat_eq (by rw [BitVec.toNat_ofNat]; omega)
    have hhigh : (b.toNat + 256 * leNat bs) / 256 = leNat bs := by omega
    rw [List.length_cons, leNat, leBytes, hlow, hhigh, ih]

/-- The number of `k` bytes is below `256 ^ k`. -/
theorem leNat_lt (bs : List Byte) : leNat bs < 256 ^ bs.length := by
  induction bs with
  | nil => exact Nat.one_pos
  | cons b bs ih =>
    have hb := b.isLt
    rw [leNat, List.length_cons, pow_succ]
    omega

/-- The word of a configuration write, from its own bytes. -/
theorem cfgWord_bytes_of_decoded {r : Byte} {v : List Byte} (hlen : v.length = 8) (hr : r.toNat < 16) :
    (cfgWord (r.setWidth 4) (BitVec.ofNat 64 (leNat v))).bytes = r :: v := by
  have hreg : (r.setWidth 4).setWidth 8 = r :=
    BitVec.eq_of_toNat_eq (by rw [BitVec.toNat_setWidth, BitVec.toNat_setWidth]; omega)
  have hlt : leNat v < 2 ^ 64 := lt_of_lt_of_le (leNat_lt v) (by rw [hlen]; decide)
  have hval : leBytes 8 (BitVec.ofNat 64 (leNat v)).toNat = v := by
    rw [BitVec.toNat_ofNat, Nat.mod_eq_of_lt hlt, ← hlen, leBytes_leNat]
  rw [cfgWord, hreg, hval]

/-! ### A configuration write by its number -/

/-- The operation of a register number is well-formed (R81, R202). -/
theorem wf_cfgInstr (par : Params) (r : BitVec 4) (v : BitVec 64) : (cfgInstr r v).wf par = true := by
  unfold cfgInstr
  split
  case h_9 h1 h2 h3 h4 h5 h6 h7 h8 =>
    have hr : r.toNat = 0 ∨ 8 < r.toNat := by
      simp only [imp_false] at h1 h2 h3 h4 h5 h6 h7 h8
      omega
    have hzero : r = 0 ↔ r.toNat = 0 := BitVec.toNat_inj.symm
    rw [← hzero] at hr
    simpa only [Instr.wf, Bool.or_eq_true, beq_iff_eq, decide_eq_true_iff] using hr
  all_goals rfl

/-- Its word carries the number and the value (R81). -/
theorem encode_cfgInstr (r : BitVec 4) (v : BitVec 64) : encode (cfgInstr r v) = some (cfgWord r v) := by
  have hreg (n : BitVec 4) (h : r.toNat = n.toNat) : cfgWord n v = cfgWord r v := by
    rw [BitVec.eq_of_toNat_eq h]
  unfold cfgInstr
  split
  case h_9 => rfl
  all_goals exact congrArg some (hreg _ ‹_›)

/-! ### A word that decodes -/

theorem decodeMode_cases {bytes : List Byte} {i : Instr} (h : decodeMode bytes = .ok i) :
    ∃ m : PktMode, bytes = [m.code.setWidth 8] ∧ i = .modew m := by
  unfold decodeMode at h
  split at h
  · next b =>
    by_cases hzero : b = 0
    · rw [if_pos hzero] at h
      cases h
      exact ⟨.rel4, by rw [hzero]; rfl, rfl⟩
    · rw [if_neg hzero] at h
      split at h
      · next hone =>
        cases h
        exact ⟨.abs6, by rw [hone]; rfl, rfl⟩
      · cases h
  · cases h

theorem decodeCfg_cases {bytes : List Byte} {i : Instr} (h : decodeCfg bytes = .ok i) :
    ∃ r v, bytes = (cfgWord r v).bytes ∧ i = cfgInstr r v := by
  unfold decodeCfg at h
  split at h
  · next r v =>
    split at h
    · cases h
    · next hlen =>
      split at h
      · next hr =>
        cases h
        exact ⟨_, _, (cfgWord_bytes_of_decoded (not_not.1 hlen) hr).symm, rfl⟩
      · cases h
  · cases h

theorem decodeByteIn_cases {par : Params} {seeking : Bool} {bytes : List Byte} {clk : Clk} {i : Instr}
    (h : decodeByteIn par seeking bytes clk = .ok i) :
    ∃ b, bytes = [b] ∧ i = if seeking then startInstr par b else .feed b clk := by
  unfold decodeByteIn at h
  split at h
  · cases h
    exact ⟨_, rfl, rfl⟩
  · cases h

/-- Everything a word that decodes can be, by its port (R81). -/
theorem decode_cases {par : Params} {seeking : Bool} {w : PortWord} {i : Instr} (h : decode par seeking w = .ok i) :
    (w.port = .rst ∧ w.bytes = [] ∧ i = .reset) ∨
    (w.port = .byteIn ∧ ∃ b, w.bytes = [b] ∧ i = if seeking then startInstr par b else .feed b w.clk) ∨
    (w.port = .mode ∧ ∃ m : PktMode, w.bytes = [m.code.setWidth 8] ∧ i = .modew m) ∨
    (w.port = .cfg ∧ ∃ r v, w.bytes = (cfgWord r v).bytes ∧ i = cfgInstr r v) := by
  unfold decode at h
  split at h
  · next hport =>
    split at h
    · next hnil =>
      cases h
      exact .inl ⟨hport, hnil, rfl⟩
    · cases h
  · next hport => exact .inr (.inl ⟨hport, decodeByteIn_cases h⟩)
  · next hport => exact .inr (.inr (.inl ⟨hport, decodeMode_cases h⟩))
  · next hport => exact .inr (.inr (.inr ⟨hport, decodeCfg_cases h⟩))

/-! ### The start classes -/

theorem startInstr_of_ack {par : Params} {b : Byte} (hack : b = par.ackCode) : startInstr par b = .startAck b := by
  rw [startInstr, startClass, if_pos hack]

theorem startInstr_of_ok {par : Params} {b : Byte} (hack : b ≠ par.ackCode) (hhdr : b &&& par.hdrMask = par.hdrValue) :
    startInstr par b = .startOk b := by
  rw [startInstr, startClass, if_neg hack, if_pos hhdr]

theorem startInstr_of_badhdr {par : Params} {b : Byte} (hack : b ≠ par.ackCode)
    (hhdr : b &&& par.hdrMask ≠ par.hdrValue) : startInstr par b = .startBadhdr b := by
  rw [startInstr, startClass, if_neg hack, if_neg hhdr]

/-- The start-byte operation of a byte is well-formed, and its word carries the byte. -/
theorem startInstr_wf_encode (par : Params) (b : Byte) :
    (startInstr par b).wf par = true ∧ encode (startInstr par b) = some (byteWord b 0) := by
  rcases startClass_cases par b with ⟨hack, -⟩ | ⟨hack, hhdr, -⟩ | ⟨hack, hhdr, -⟩
  · rw [startInstr_of_ack hack]
    exact ⟨by simp [Instr.wf, hack], rfl⟩
  · rw [startInstr_of_ok hack hhdr]
    exact ⟨by simp [Instr.wf, hack, hhdr], rfl⟩
  · rw [startInstr_of_badhdr hack hhdr]
    exact ⟨by simp [Instr.wf, hack, hhdr], rfl⟩

/-! ### Encoding and decoding -/

/-- The family `WordDecodes`, for every operation. -/
theorem wordDecodes : ∀ i : Instr, Laws.WordDecodes.Statement i
  | .reset => Laws.WordDecodes.reset
  | .feed b t => Laws.WordDecodes.feed b t
  | .startAck b => Laws.WordDecodes.startAck b
  | .startBadhdr b => Laws.WordDecodes.startBadhdr b
  | .startOk b => Laws.WordDecodes.startOk b
  | .pktRel4 p now => Laws.WordDecodes.pktRel4 p now
  | .pktAbs6 p now => Laws.WordDecodes.pktAbs6 p now
  | .pktRel3 p now => Laws.WordDecodes.pktRel3 p now
  | .decAbs p => Laws.WordDecodes.decAbs p
  | .decRel3 p now => Laws.WordDecodes.decRel3 p now
  | .decRel4 p now => Laws.WordDecodes.decRel4 p now
  | .gRegion x y => Laws.WordDecodes.gRegion x y
  | .gTfentry x y z => Laws.WordDecodes.gTfentry x y z
  | .gWillscroll z region => Laws.WordDecodes.gWillscroll z region
  | .gTfscroll x y now => Laws.WordDecodes.gTfscroll x y now
  | .gEdgescroll x y region now => Laws.WordDecodes.gEdgescroll x y region now
  | .gMove x y tap buttons now => Laws.WordDecodes.gMove x y tap buttons now
  | .gTapclick tap tapClick buttons now => Laws.WordDecodes.gTapclick tap tapClick buttons now
  | .gCommit x y z region tap tapClick buttons => Laws.WordDecodes.gCommit x y z region tap tapClick buttons
  | .modew m => Laws.WordDecodes.modew m
  | .cfgwClicking v => Laws.WordDecodes.cfgwClicking v
  | .cfgwDragging v => Laws.WordDecodes.cfgwDragging v
  | .cfgwDraglock v => Laws.WordDecodes.cfgwDraglock v
  | .cfgwHscrollEn v => Laws.WordDecodes.cfgwHscrollEn v
  | .cfgwVscrollEn v => Laws.WordDecodes.cfgwVscrollEn v
  | .cfgwScrollAccelRaw v => Laws.WordDecodes.cfgwScrollAccelRaw v
  | .cfgwPointerAccelRaw v => Laws.WordDecodes.cfgwPointerAccelRaw v
  | .cfgwMaxTapTime v => Laws.WordDecodes.cfgwMaxTapTime v
  | .cfgwIgnored r v => Laws.WordDecodes.cfgwIgnored r v
  | .timerExpire => Laws.WordDecodes.timerExpire
  | .evMotion dx dy buttons ts => Laws.WordDecodes.evMotion dx dy buttons ts
  | .evScroll v h ts => Laws.WordDecodes.evScroll v h ts

/-- A word that decodes is the encoding of the well-formed operation it decodes to (R81). -/
theorem encode_of_decode {par : Params} {seeking : Bool} {w : PortWord} {i : Instr} (h : decode par seeking w = .ok i) :
    i.wf par = true ∧ ∃ w', encode i = some w' ∧ w'.port = w.port ∧ w'.bytes = w.bytes := by
  rcases decode_cases h with ⟨hport, hbytes, rfl⟩ | ⟨hport, b, hbytes, rfl⟩ | ⟨hport, m, hbytes, rfl⟩ |
    ⟨hport, r, v, hbytes, rfl⟩
  · exact ⟨rfl, _, rfl, hport.symm, hbytes.symm⟩
  · cases seeking
    · exact ⟨rfl, _, rfl, hport.symm, hbytes.symm⟩
    · obtain ⟨hwf, henc⟩ := startInstr_wf_encode par b
      exact ⟨hwf, _, henc, hport.symm, hbytes.symm⟩
  · exact ⟨rfl, _, rfl, hport.symm, hbytes.symm⟩
  · exact ⟨wf_cfgInstr par r v, _, encode_cfgInstr r v, hport.symm, hbytes.symm⟩

/-- Settles O50: the family `WordDecodes` in each state of the framer, and the reading of a word back from its
operation. -/
theorem decodingInvertsEncoding : Obligations.DecodingInvertsEncoding := by
  refine ⟨fun par i w hwf henc hfeed => ?_, fun par i w hwf henc hstart => ?_, fun par k w i h => encode_of_decode h⟩
  · exact wordDecodes i par true w hwf henc (fun _ => rfl) (fun b t hi => absurd hi (hfeed b t))
  · exact wordDecodes i par false w hwf henc (fun h => absurd h (by simp [hstart])) (fun _ _ _ => rfl)

/-- Settles O51: each row's word is a closed term, evaluated by the decoder. -/
theorem tableWordsDecodeToTheirRows : Obligations.TableWordsDecodeToTheirRows :=
  ⟨rfl, rfl, rfl, rfl, rfl, rfl, rfl⟩

end Sys2Proof
end

section
/-! The encoder `REL4` (30_encoding R93) against the relative decoder (42_rel_decoder R138): the first byte carries two
signs and the buttons, each of the other bytes the low bits of its operand. -/

namespace Sys2Proof.Machine

/-- The form of `p[0]` in the encoder of R93: bit 3, the two signs and the buttons. -/
def relFirstByte (ySign xSign : Bool) (btn : BitVec 3) : Byte :=
  0x08 ||| (if ySign then 0x20 else 0) ||| (if xSign then 0x10 else 0) ||| btn.setWidth 8

/-- The fields of a first byte, read back; its bit 3 puts it in class `START.OK` (R71, R76). -/
theorem relFirstByte_fields (ySign xSign : Bool) (btn : BitVec 3) :
    byteBit (relFirstByte ySign xSign btn) 5 = ySign ∧ byteBit (relFirstByte ySign xSign btn) 4 = xSign ∧
    relBtn (relFirstByte ySign xSign btn) = btn ∧ relFirstByte ySign xSign btn ≠ 0xFA ∧
    relFirstByte ySign xSign btn &&& 0x08 = 0x08 := by
  revert ySign xSign btn
  decide

theorem asmRel4_p0 (dxr dyr : BitVec 9) (btn : BitVec 3) (w : BitVec 4) :
    (asmRel4 dxr dyr btn w).p0 = relFirstByte dyr.msb dxr.msb btn := by
  simp only [asmRel4, relFirstByte, BitVec.msb_eq_toInt, decide_eq_true_eq]

/-- A 9-bit operand, from its sign and its low byte. -/
theorem sext9_msb_setWidth (v : BitVec 9) : sext9 v.msb (v.setWidth 8) = v.toInt :=
  congrArg BitVec.toInt (BitVec.cons_msb_setWidth (w := 8) v)

/-- The wheel's 4 bits in a byte of their own, read back. -/
theorem relWheel_setWidth (w : BitVec 4) : relWheel (w.setWidth 8) = w.toInt := by
  rw [relWheel, ← BitVec.setWidth_eq_extractLsb' (by decide), BitVec.setWidth_setWidth_of_le _ (by decide),
    BitVec.setWidth_eq]

/-- The decoder inverts the encoder (R93, R138). -/
theorem rel4Events_asmRel4 (dxr dyr : BitVec 9) (btn : BitVec 3) (w : BitVec 4) (now : Clk) :
    rel4Events (asmRel4 dxr dyr btn w) now =
      [.motion dxr.toInt (-dyr.toInt) btn now.toNat, .scroll (-w.toInt) 0 now.toNat] := by
  obtain ⟨hy, hx, hbtn, -, -⟩ := relFirstByte_fields dyr.msb dxr.msb btn
  simp only [rel4Events, relDx, relDy, asmRel4_p0, hy, hx, hbtn]
  rw [asmRel4, sext9_msb_setWidth, sext9_msb_setWidth, relWheel_setWidth]

/-- Settles O24: the events of the encoder's bytes carry the operands, and the first byte has bit 3 set and is not the
acknowledgment code. -/
theorem relativeEncoderRoundTrip : Obligations.RelativeEncoderRoundTrip := by
  intro dxr dyr btn w now s
  refine ⟨?_, ?_⟩
  · obtain ⟨-, -, -, hack, hhdr⟩ := relFirstByte_fields dyr.msb dxr.msb btn
    rw [asmRel4_p0]
    exact (if_neg hack).trans (if_pos hhdr)
  · rw [exec_decRel4, exec_pktRel4, rel4Events_asmRel4]
    rfl

end Sys2Proof.Machine
end

section
/-! The Packet Assembler (40_framer): every next state of a `FEED`, the start classes as the `FEED` of their byte, the
byte that completes a packet, and the events of one `FEED`. -/

namespace Sys2Proof.Machine

/-! ### An accepted byte -/

/-- A byte that is in class `START.OK`, or arrives in mid-packet, is accepted (R100, R107). -/
theorem exec_feed_of_accepted {s : State} {b : Byte} (t : Clk) (hok : s.count = 0 → startClass s.par b = .ok) :
    exec (.feed b t) s = .next (s.accept b t) := by
  rcases execFeed_cases b t s with ⟨hc, hne, -⟩ | ⟨-, h⟩
  · exact absurd (hok hc) hne
  · exact h

/-- An accepted byte that completes no packet is appended, and `count` goes on (R102, R103). -/
theorem State.accept_of_incomplete {s : State} (b : Byte) (t : Clk) (hc : ¬s.byteCompletes) :
    s.accept b t = (s.append b).setCount (Fin.ofNat 6 (s.count.val + 1)) := by
  rcases State.accept_cases s b t with ⟨hthree, hmode, -⟩ | ⟨hfive, -⟩ | ⟨-, -, h⟩
  · exact absurd (.inr ⟨hthree, hmode⟩) hc
  · exact absurd (.inl hfive) hc
  · exact h

/-- The fourth byte in `REL4` mode completes a relative packet: a due button-up, the dispatch, `count` back at 0 (R103,
R104, R108). -/
theorem State.accept_of_three {s : State} (b : Byte) (t : Clk) (hcount : s.count.val = 3)
    (hmode : s.cfg.pktMode = .rel4) :
    s.accept b t = (((s.append b).expireIfDue t).dispatchRel4 (s.append b).buf.pkt4 t).setCount 0 := by
  rcases State.accept_cases s b t with ⟨-, -, h⟩ | ⟨hfive, -⟩ | ⟨-, hnot, -⟩
  · exact h
  · omega
  · exact absurd ⟨hcount, hmode⟩ hnot

/-- The sixth byte completes an absolute packet: a due button-up, the dispatch, `count` back at 0 (R103, R105, R108). -/
theorem State.accept_of_five {s : State} (b : Byte) (t : Clk) (hcount : s.count.val = 5) :
    s.accept b t = (((s.append b).expireIfDue t).dispatchAbs (s.append b).buf.pkt6 t).setCount 0 := by
  rcases State.accept_cases s b t with ⟨hthree, -, -⟩ | ⟨-, h⟩ | ⟨hne, -, -⟩
  · omega
  · exact h
  · exact absurd hcount hne

/-- A byte that completes a packet is in mid-packet. -/
theorem State.count_ne_zero_of_byteCompletes {s : State} (h : s.byteCompletes) : s.count ≠ 0 := by
  intro hzero
  rw [State.byteCompletes, hzero] at h
  rcases h with h | ⟨h, -⟩ <;> exact absurd h (by decide)

theorem exec_feed_completes_abs6 {s : State} (b : Byte) (t : Clk) (hcount : s.count.val = 5) :
    exec (.feed b t) s =
      .next ((((s.append b).expireIfDue t).dispatchAbs (s.append b).buf.pkt6 t).setCount 0) := by
  have hmid := State.count_ne_zero_of_byteCompletes (.inl hcount)
  rw [exec_feed_of_accepted t fun h => absurd h hmid, State.accept_of_five b t hcount]

theorem exec_feed_incomplete {s : State} {b : Byte} (t : Clk) (hok : s.count = 0 → startClass s.par b = .ok)
    (hc : ¬s.byteCompletes) :
    exec (.feed b t) s = .next ((s.append b).setCount (Fin.ofNat 6 (s.count.val + 1))) := by
  rw [exec_feed_of_accepted t hok, State.accept_of_incomplete b t hc]

/-- `count` after a byte that completes no packet. -/
theorem State.nextCount_of_incomplete {s : State} (hc : ¬s.byteCompletes) :
    (Fin.ofNat 6 (s.count.val + 1)).val = s.count.val + 1 := by
  have hlt := s.count.isLt
  have hfive : s.count.val ≠ 5 := fun h => hc (.inl h)
  rw [Fin.val_ofNat]
  omega

/-- Every next state of a `FEED`: a discard, an append, or the dispatch of a whole packet (R100 to R105). -/
theorem exec_feed_cases {s u : State} {b : Byte} {t : Clk} (h : exec (.feed b t) s = .next u) :
    (s.count = 0 ∧ startClass s.par b ≠ .ok ∧ u = s) ∨
    ((s.count = 0 → startClass s.par b = .ok) ∧ ¬s.byteCompletes ∧
      u = (s.append b).setCount (Fin.ofNat 6 (s.count.val + 1))) ∨
    (s.count.val = 3 ∧ s.cfg.pktMode = .rel4 ∧
      u = (((s.append b).expireIfDue t).dispatchRel4 (s.append b).buf.pkt4 t).setCount 0) ∨
    (s.count.val = 5 ∧ u = (((s.append b).expireIfDue t).dispatchAbs (s.append b).buf.pkt6 t).setCount 0) := by
  rcases execFeed_cases b t s with ⟨hc, hne, he⟩ | ⟨hok, he⟩
  · cases he.symm.trans h
    exact .inl ⟨hc, hne, rfl⟩
  · cases he.symm.trans h
    rcases State.accept_cases s b t with ⟨hthree, hmode, h⟩ | ⟨hfive, h⟩ | ⟨hfive, hrel, h⟩
    · exact .inr (.inr (.inl ⟨hthree, hmode, h⟩))
    · exact .inr (.inr (.inr ⟨hfive, h⟩))
    · exact .inr (.inl ⟨hok, fun hc => hc.elim hfive hrel, h⟩)

/-! ### The start classes -/

/-- `START.OK` where the class exists (R102). -/
theorem exec_startOk_of_ok {s : State} {b : Byte} (hc : s.count = 0) (hok : startClass s.par b = .ok) :
    exec (.startOk b) s = .next ((s.append b).setCount 1) :=
  if_pos (by rw [(State.seeking_iff s).2 hc, hok]; rfl)

/-- `START.OK` where the class does not exist (log entry 8). -/
theorem exec_startOk_of_not_ok {s : State} {b : Byte} (h : ¬(s.count = 0 ∧ startClass s.par b = .ok)) :
    exec (.startOk b) s = .next s :=
  if_neg (by rwa [Bool.and_eq_true, beq_iff_eq, State.seeking_iff])

/-- A byte that passes both tests of R71 is in class `START.OK`. -/
theorem startClass_eq_ok {par : Params} {b : Byte} (hack : b ≠ par.ackCode) (hhdr : b &&& par.hdrMask = par.hdrValue) :
    startClass par b = .ok := (if_neg hack).trans (if_pos hhdr)

/-- While SEEKING a `FEED` is the operation of its byte's start class (R71, R101, R102). -/
theorem exec_startInstr {s : State} (b : Byte) (t : Clk) (hc : s.count = 0) :
    exec (startInstr s.par b) s = exec (.feed b t) s := by
  have hne := startClass_ne_ok_iff s.par b
  rcases startClass_cases s.par b with ⟨hack, -⟩ | ⟨hack, hhdr, hok⟩ | ⟨hack, hhdr, -⟩
  · rw [startInstr_of_ack hack]
    exact (execFeed_of_discarded t hc (hne.2 (.inl hack))).symm
  · have hinc : ¬s.byteCompletes := fun hb => State.count_ne_zero_of_byteCompletes hb hc
    rw [startInstr_of_ok hack hhdr, exec_startOk_of_ok hc hok, exec_feed_incomplete t (fun _ => hok) hinc, hc]
    rfl
  · rw [startInstr_of_badhdr hack hhdr]
    exact (execFeed_of_discarded t hc (hne.2 (.inr hhdr))).symm

/-- Settles O11: `startInstr` names the operation of the class. -/
theorem feedWhileSeekingIsTheStartClass : Obligations.FeedWhileSeekingIsTheStartClass := by
  intro s b t hc
  rw [← exec_startInstr b t hc]
  exact ⟨fun hack => by rw [startInstr_of_ack hack], fun hack hhdr => by rw [startInstr_of_badhdr hack hhdr],
    fun hack hhdr => by rw [startInstr_of_ok hack hhdr]⟩

/-- Settles O10: the append at `count` 0 writes address 0; outside the class nothing is done. -/
theorem startOkStoresTheFirstByte : Obligations.StartOkStoresTheFirstByte := by
  refine fun s b => ⟨fun hc hack hhdr => ⟨?_, Memory.get?_write_same s.buf 0 b,
    fun a ha => Memory.get?_write_other s.buf 0 a b ha⟩, fun h => exec_startOk_of_not_ok ?_⟩
  · rw [exec_startOk_of_ok hc (startClass_eq_ok hack hhdr), State.append, hc]
    rfl
  · rintro ⟨hc, hok⟩
    exact h.elim (fun hne => hne hc) (fun hbad => (startClass_ne_ok_iff s.par b).2 hbad hok)

/-! ### What a `FEED` does to `count` and `buf` -/

/-- Every operation answers (R233); the three that choose do so on both branches. -/
theorem exec_answers (i : Instr) (s : State) : ∃ t, exec i s = .next t := by
  cases i with
  | feed b t => rcases execFeed_cases b t s with ⟨-, -, h⟩ | ⟨-, h⟩ <;> exact ⟨_, h⟩
  | startOk b => rcases execStartOk_cases b s with ⟨-, -, h⟩ | h <;> exact ⟨_, h⟩
  | timerExpire => rcases execTimerExpire_cases s with ⟨-, h⟩ | ⟨-, h⟩ <;> exact ⟨_, h⟩
  | _ => exact ⟨_, rfl⟩

/-- Settles O5: there is no other outcome (R233). -/
theorem everyOperationHasANextState : Obligations.EveryOperationHasANextState := exec_answers

/-- Settles O12: such a byte is appended. -/
theorem acceptedByteIsStoredAtCount : Obligations.AcceptedByteIsStoredAtCount := by
  intro s b t hstart hfive hrel
  have hinc : ¬s.byteCompletes := fun hc => hc.elim hfive hrel
  have hok (hc : s.count = 0) : startClass s.par b = .ok := startClass_eq_ok (hstart hc).1 (hstart hc).2
  exact ⟨_, exec_feed_incomplete t hok hinc, State.nextCount_of_incomplete hinc, Memory.get?_write_same _ _ _,
    fun a ha => Memory.get?_write_other _ _ a b ha, rfl⟩

/-- Settles O15: the four things a `FEED` can do are the rows of the table. -/
theorem framerCountFollowsTheTransitionTable : Obligations.FramerCountFollowsTheTransitionTable := by
  intro s b t
  obtain ⟨u, hu⟩ := exec_answers (.feed b t) s
  refine ⟨u, hu, ?_⟩
  rcases exec_feed_cases hu with ⟨hzero, hne, rfl⟩ | ⟨hok, hinc, rfl⟩ | ⟨hthree, hmode, rfl⟩ | ⟨hfive, rfl⟩
  case inl =>
    have hzero' : u.count.val = 0 := congrArg Fin.val hzero
    exact ⟨fun _ _ => hzero', fun _ hack hhdr => absurd (startClass_eq_ok hack hhdr) hne, by omega, by omega,
      by omega, by omega, by omega⟩
  case inr.inl =>
    rw [State.setCount_count, State.nextCount_of_incomplete hinc]
    refine ⟨fun hzero hbad => ?_, by omega, fun _ => rfl, fun hthree hmode => ?_, by omega, by omega, fun hfive => ?_⟩
    · exact absurd (hok (Fin.ext hzero)) ((startClass_ne_ok_iff s.par b).2 hbad)
    · exact absurd (.inr ⟨hthree, hmode⟩) hinc
    · exact absurd (.inl hfive) hinc
  case inr.inr.inl =>
    exact ⟨by omega, by omega, by omega, fun _ _ => rfl, fun _ habs => absurd (hmode.symm.trans habs) (by decide),
      by omega, by omega⟩
  case inr.inr.inr =>
    exact ⟨by omega, by omega, by omega, by omega, by omega, by omega, fun _ => rfl⟩

/-- Settles O16: a discard writes nothing, an accepted byte is written at `count` and nowhere else. -/
theorem feedWritesOnlyTheByteAtCount : Obligations.FeedWritesOnlyTheByteAtCount := by
  intro s u b t h
  rcases execFeed_cases b t s with ⟨hzero, -, he⟩ | ⟨-, he⟩ <;> cases he.symm.trans h
  · exact ⟨fun _ _ => rfl, .inr ⟨congrArg Fin.val hzero, rfl⟩, rfl, rfl, rfl, rfl⟩
  · obtain ⟨hbuf, hcfg, hpar, hres, hinput, -⟩ := State.accept_frame s b t
    rw [hbuf]
    exact ⟨fun a ha => Memory.get?_write_other _ _ a b ha, .inl (Memory.get?_write_same _ _ _), hcfg, hpar, hres,
      hinput⟩

/-! ### The byte that completes a packet -/

/-- The packet of a buffer whose fourth byte has just been written (R104). -/
theorem Memory.pkt4_write (m : Memory) (b : Byte) :
    (m.write 3 b).pkt4 = ⟨m.read 0, m.read 1, m.read 2, b⟩ := by
  simp [Memory.pkt4, Memory.read_write]

/-- The packet of a buffer whose sixth byte has just been written (R105). -/
theorem Memory.pkt6_write (m : Memory) (b : Byte) :
    (m.write 5 b).pkt6 = ⟨m.read 0, m.read 1, m.read 2, m.read 3, m.read 4, b⟩ := by
  simp [Memory.pkt6, Memory.read_write]

/-- A button-up that is due is `TIMER.EXPIRE`, and where none is due nothing happens (R108, R212). -/
theorem State.expireIfDue_spec (s : State) (t : Clk) :
    (s.mot.tapArmed = true ∧ s.mot.tapDeadline ≤ t.toNat → exec .timerExpire s = .next (s.expireIfDue t)) ∧
    (¬(s.mot.tapArmed = true ∧ s.mot.tapDeadline ≤ t.toNat) → s.expireIfDue t = s) := by
  refine ⟨fun hdue => ?_, State.expireIfDue_of_not_due s t⟩
  rw [State.expireIfDue_of_due s t hdue]
  exact if_pos hdue.1

/-- Settles O13: the byte appended at address 3, the due button-up, the dispatch and the count, in this order. -/
theorem fourthByteDispatchesTheRelativePacket : Obligations.FourthByteDispatchesTheRelativePacket := by
  intro s b t hcount hmode
  have happend : s.append b = { s with buf := s.buf.write 3 b } := by
    rw [State.append, hcount]
    rfl
  obtain ⟨hdue, hnot⟩ := State.expireIfDue_spec { s with buf := s.buf.write 3 b } t
  refine ⟨s.buf.write 3 b, _, _, Memory.get?_write_same _ _ _, fun a ha => Memory.get?_write_other _ _ a b ha,
    hdue, hnot, rfl, ?_⟩
  rw [exec_feed_completes_rel4 b t hcount hmode, happend, Memory.pkt4_write]
  rfl

/-- Settles O14: as for the fourth byte, at address 5 and in either mode. -/
theorem sixthByteDispatchesTheAbsolutePacket : Obligations.SixthByteDispatchesTheAbsolutePacket := by
  intro s b t hcount
  have happend : s.append b = { s with buf := s.buf.write 5 b } := by
    rw [State.append, hcount]
    rfl
  obtain ⟨hdue, hnot⟩ := State.expireIfDue_spec { s with buf := s.buf.write 5 b } t
  refine ⟨s.buf.write 5 b, _, _, Memory.get?_write_same _ _ _, fun a ha => Memory.get?_write_other _ _ a b ha,
    hdue, hnot, rfl, ?_⟩
  rw [exec_feed_completes_abs6 b t hcount, happend, Memory.pkt6_write]
  rfl

/-! ### The events of a `FEED` -/

/-- The events of the button-up before a dispatch at `t`: one where it is due, none elsewhere (R108). -/
def State.dueEvents (s : State) (t : Clk) : List Event := if buttonUpDue t s.mot then buttonUpEvents s.mot else []

theorem State.expireIfDue_out (s : State) (t : Clk) : (s.expireIfDue t).out = s.out ++ s.dueEvents t := by
  rw [State.dueEvents]
  rcases State.expireIfDue_cases s t with ⟨hdue, h⟩ | ⟨hdue, h⟩ <;> rw [h, hdue]
  · rfl
  · exact (List.append_nil _).symm

theorem State.dueEvents_length_le (s : State) (t : Clk) : (s.dueEvents t).length ≤ 1 := by
  rw [State.dueEvents]
  split <;> simp [buttonUpEvents]

theorem State.dueEvents_of_due {s : State} {t : Clk} (h : s.mot.tapArmed = true ∧ s.mot.tapDeadline ≤ t.toNat) :
    s.dueEvents t = [.motion 0 0 s.mot.lastButtons s.mot.tapDeadline] :=
  if_pos ((buttonUpDue_iff t s.mot).2 h)

/-- A path emits at most one event (R161). -/
theorem stagePath_length_le (par : Params) (cfg : ConfigRegs) (smp : Sample) (region : Region) (now : Clk)
    (m : MotionState) : (stagePath par cfg smp region now m).2.length ≤ 1 := by
  rcases stagePath_cases par cfg smp region now m with ⟨-, h⟩ | ⟨-, -, h⟩ | ⟨-, -, h⟩ <;> rw [h]
  · rcases stageTfScroll_cases cfg smp.x smp.y now m with ⟨-, h⟩ | ⟨-, h⟩ <;> rw [h] <;> simp
  · exact le_rfl
  · exact le_rfl

/-- Stage 7 emits at most one event (R174). -/
theorem stageTapClick_length_le (par : Params) (cfg : ConfigRegs) (tap tapClick : Bool) (buttons : Buttons) (now : Clk)
    (m : MotionState) : (stageTapClick par cfg tap tapClick buttons now m).2.length ≤ 1 := by
  rcases stageTapClick_cases par cfg tap tapClick buttons now m with ⟨-, h⟩ | ⟨-, -, h⟩ | ⟨-, -, h⟩ <;> rw [h] <;>
    simp

theorem classify_length_le (par : Params) (cfg : ConfigRegs) (smp : Sample) (now : Clk) (m : MotionState) :
    (classify par cfg smp now m).2.length ≤ 2 := by
  have hpath := stagePath_length_le par cfg smp (regionOf m.prevRegion smp.x smp.y) now
    (stageTfEntry cfg smp.x smp.y smp.z m)
  have htap := stageTapClick_length_le par cfg smp.tap smp.tapClick smp.buttons now
    (stagePath par cfg smp (regionOf m.prevRegion smp.x smp.y) now (stageTfEntry cfg smp.x smp.y smp.z m)).1
  rw [classify, List.length_append]
  omega

/-- The dispatch of an absolute packet emits at most two events (R237). -/
theorem State.dispatchAbs_events (s : State) (p : Pkt6) (now : Clk) :
    ∃ es, (s.dispatchAbs p now).out = s.out ++ es ∧ es.length ≤ 2 :=
  ⟨_, State.dispatchAbs_out s p now, classify_length_le s.par s.cfg (decodeAbs p) now s.mot⟩

/-- A dispatch emits, before the packet's events, those of a due button-up (R237). -/
theorem exec_feed_events {s u : State} {b : Byte} {t : Clk} (h : exec (.feed b t) s = .next u) :
    (¬s.byteCompletes ∧ u.out = s.out) ∨
    (s.count.val = 3 ∧ s.cfg.pktMode = .rel4 ∧ ∃ es, u.out = s.out ++ (s.dueEvents t ++ es) ∧ es.length = 2) ∨
    (s.count.val = 5 ∧ ∃ es, u.out = s.out ++ (s.dueEvents t ++ es) ∧ es.length ≤ 2) := by
  rcases exec_feed_cases h with ⟨hzero, -, rfl⟩ | ⟨-, hinc, rfl⟩ | ⟨hthree, hmode, rfl⟩ | ⟨hfive, rfl⟩
  · exact .inl ⟨fun hb => State.count_ne_zero_of_byteCompletes hb hzero, rfl⟩
  · exact .inl ⟨hinc, rfl⟩
  · refine .inr (.inl ⟨hthree, hmode, rel4Events (s.append b).buf.pkt4 t, ?_, rfl⟩)
    rw [State.setCount_out, State.dispatchRel4_out, State.expireIfDue_out, List.append_assoc]
    rfl
  · obtain ⟨es, hout, hlen⟩ := State.dispatchAbs_events ((s.append b).expireIfDue t) (s.append b).buf.pkt6 t
    refine .inr (.inr ⟨hfive, es, ?_, hlen⟩)
    rw [State.setCount_out, hout, State.expireIfDue_out, List.append_assoc]
    rfl

/-- The button-up that is due is the first of the events of a dispatch. -/
theorem State.head?_dueEvents_append {s : State} {t : Clk} (es : List Event)
    (hdue : s.mot.tapArmed = true ∧ s.mot.tapDeadline ≤ t.toNat) :
    (s.dueEvents t ++ es).head? = some (.motion 0 0 s.mot.lastButtons s.mot.tapDeadline) := by
  rw [State.dueEvents_of_due hdue]
  rfl

/-- Settles O20: the numbers of the events of a dispatch, with at most one of a button-up before them. -/
theorem eventCountOfOneFeed : Obligations.EventCountOfOneFeed := by
  intro s u b t h
  have hdue := s.dueEvents_length_le t
  rcases exec_feed_events h with ⟨hinc, hout⟩ | ⟨hthree, hmode, es, hout, hlen⟩ | ⟨hfive, es, hout, hlen⟩
  · refine ⟨[], by rw [hout, List.append_nil], fun hthree hmode => absurd (.inr ⟨hthree, hmode⟩) hinc,
      fun _ => Nat.zero_le _, fun _ _ => rfl, fun hcomp => absurd hcomp hinc⟩
  · refine ⟨_, hout, fun _ _ => ?_, by omega, fun _ hnot => absurd ⟨hthree, hmode⟩ hnot,
      fun _ harmed hle => State.head?_dueEvents_append es ⟨harmed, hle⟩⟩
    rw [List.length_append]
    omega
  · refine ⟨_, hout, by omega, fun _ => ?_, fun hnot => absurd hfive hnot,
      fun _ harmed hle => State.head?_dueEvents_append es ⟨harmed, hle⟩⟩
    rw [List.length_append]
    omega

/-! ### A mode write in mid-packet -/

theorem exec_modew (m : PktMode) (s : State) : exec (.modew m) s = .next (s.setCfg { s.cfg with pktMode := m }) := rfl

/-- An absolute packet leaves its pressure in `prevZ` (R180). -/
theorem State.dispatchAbs_prevZ (s : State) (p : Pkt6) (now : Clk) : (s.dispatchAbs p now).mot.prevZ = p.p5 := rfl

/-- Settles O17: the count is the table's on the written mode (O15), the events are those of one `FEED` (O20). -/
theorem modeWriteInMidPacketIsSeenByTheNextLengthTest :
    Obligations.ModeWriteInMidPacketIsSeenByTheNextLengthTest := by
  intro s m b t
  obtain ⟨v, hv, -, -, -, hrel, habs, hfour, hfive⟩ :=
    framerCountFollowsTheTransitionTable (s.setCfg { s.cfg with pktMode := m }) b t
  obtain ⟨es, hout, hlen, -, hnone, -⟩ := eventCountOfOneFeed _ v b t hv
  have hsilent (hfive : s.count.val ≠ 5) (hrel : ¬(s.count.val = 3 ∧ m = .rel4)) : v.out = s.out := by
    rw [hout, hnone hfive hrel, List.append_nil]
    rfl
  refine ⟨_, v, exec_modew m s, rfl, rfl, hv, fun h hm => ⟨hrel h hm, fun heq => ?_⟩, fun h hm => ⟨habs h hm, ?_⟩,
    fun h => ⟨hfour h, ?_⟩, fun h => ⟨hfive h, ?_⟩⟩
  · have hes : es = [] := List.append_right_eq_self.1 (hout.symm.trans heq)
    obtain ⟨htwo, -⟩ := hlen h hm
    rw [hes] at htwo
    exact absurd htwo (by decide)
  · exact hsilent (by omega) (fun hboth => absurd (hm.symm.trans hboth.2) (by decide))
  · exact hsilent (by omega) (by omega)
  · cases (exec_feed_completes_abs6 (s := s.setCfg { s.cfg with pktMode := m }) b t h).symm.trans hv
    rw [State.setCount_mot, State.dispatchAbs_prevZ, State.append_buf, State.setCfg_count, h, Memory.pkt6_write]

end Sys2Proof.Machine
end

section
/-! What an absolute packet emits (43_gesture R161 to R163, R174, 60_exceptions R237): the event of its path and the
button-down of a click; then streams of packets in two-finger mode and on the right edge, by induction over an invariant
of the counter. -/

namespace Sys2Proof.Machine

/-! ### Stage 7 after the path -/

/-- What stage 7 answers on the path of a sample (R170). -/
def State.tapped (s : State) (smp : Sample) (now : Clk) : StageResult :=
  stageTapClick s.par s.cfg smp.tap smp.tapClick smp.buttons now (s.path smp now).1

/-- The synthetic button: held, release scheduled, and when (R30, R31). -/
def MotionState.button (m : MotionState) : Bool × Bool × Time := (m.tapBtn, m.tapArmed, m.tapDeadline)

section
variable {s : State} {smp : Sample} (now : Clk)

/-- The path, stage 2 before it included, leaves alone the registers of the tap and of the commit. -/
theorem State.path_frame : ∃ tf rx ry c tm, (s.path smp now).1 =
    { s.mot with twoFinger := tf, refX := rx, refY := ry, cnt := c, touchMode := tm } := by
  obtain ⟨tf, _, _, hentry⟩ := stageTfEntry_frame s.cfg smp.x smp.y smp.z s.mot
  obtain ⟨rx, ry, c, tm, hpath⟩ := stagePath_frame s.par s.cfg smp (s.sampleRegion smp) now (s.entered smp)
  exact ⟨tf, rx, ry, c, tm, by rw [State.path, hpath, State.entered, hentry]⟩

/-- Whether a release is a click is decided by the old state (R174). -/
theorem State.clickReleased_iff :
    s.clickReleased smp now ↔ smp.tapClick = false ∧ isClick s.cfg now (s.path smp now).1 = true := by
  obtain ⟨tf, rx, ry, c, tm, h⟩ := State.path_frame (s := s) (smp := smp) now
  rw [isClick_iff, h]
  rfl

theorem State.path_button : (s.path smp now).1.button = s.mot.button := by
  obtain ⟨tf, rx, ry, c, tm, h⟩ := State.path_frame (s := s) (smp := smp) now
  rw [h]
  rfl

theorem endTouch_button (tap : Bool) (m : MotionState) : (endTouch tap m).button = m.button := by
  obtain ⟨tm, tf, h⟩ := endTouch_frame tap m
  rw [h]
  rfl

/-- A click emits the button-down and schedules the button-up (R174). -/
theorem State.tapped_of_click (h : s.clickReleased smp now) :
    (s.tapped smp now).2 = [.motion 0 0 (smp.buttons ||| 1) now.toNat] ∧
    (s.tapped smp now).1.button = (true, true, now.toNat + s.par.tapUpDelay.toNat) := by
  obtain ⟨htc, hclick⟩ := (State.clickReleased_iff now).1 h
  rw [State.tapped]
  rcases stageTapClick_cases s.par s.cfg smp.tap smp.tapClick smp.buttons now (s.path smp now).1 with
    ⟨htc', -⟩ | ⟨-, -, he⟩ | ⟨-, hclick', -⟩
  · exact absurd (htc.symm.trans htc') (by decide)
  · rw [he]
    exact ⟨rfl, endTouch_button _ _⟩
  · exact absurd (hclick.symm.trans hclick') (by decide)

/-- Without a click stage 7 emits nothing and leaves the synthetic button alone (R172, R174). -/
theorem State.tapped_of_no_click (h : ¬s.clickReleased smp now) :
    (s.tapped smp now).2 = [] ∧ (s.tapped smp now).1.button = s.mot.button := by
  rw [State.clickReleased_iff] at h
  rw [State.tapped, ← State.path_button (s := s) (smp := smp) now]
  rcases stageTapClick_cases s.par s.cfg smp.tap smp.tapClick smp.buttons now (s.path smp now).1 with
    ⟨-, he⟩ | ⟨htc, hclick, -⟩ | ⟨-, -, he⟩
  · rw [he]
    exact ⟨rfl, rfl⟩
  · exact absurd ⟨htc, hclick⟩ h
  · rw [he]
    exact ⟨rfl, endTouch_button _ _⟩

end

/-! ### The events of the paths -/

section
variable {s : State} {smp : Sample} (now : Clk)

theorem State.path_events_of_twoFinger (h : s.twoFingerAfterEntry smp) :
    (s.path smp now).2.length ≤ 1 ∧ ∀ e ∈ (s.path smp now).2, e.isScroll = true := by
  rw [State.path_of_twoFinger now h]
  rcases stageTfScroll_cases s.cfg smp.x smp.y now (s.entered smp) with ⟨-, he⟩ | ⟨-, he⟩ <;> rw [he]
  · exact ⟨le_rfl, List.forall_mem_singleton.2 rfl⟩
  · exact ⟨Nat.zero_le _, List.forall_mem_nil _⟩

theorem State.path_events_of_edgeScroll (htf : ¬s.twoFingerAfterEntry smp) (hedge : s.edgeScrollOn smp) :
    ∃ e, (s.path smp now).2 = [e] ∧ e.isScroll = true := by
  rw [State.path_of_edgeScroll now htf hedge]
  exact ⟨_, rfl, rfl⟩

theorem State.path_events_of_move (htf : ¬s.twoFingerAfterEntry smp) (hedge : ¬s.edgeScrollOn smp) :
    ∃ e, (s.path smp now).2 = [e] ∧ e.isScroll = false := by
  rw [State.path_of_move now htf hedge]
  exact ⟨_, rfl, rfl⟩

end

/-! ### The whole packet -/

/-- An absolute packet emits the events of its path, then those of stage 7 (R235). -/
theorem State.dispatchAbs_out_eq (s : State) (p : Pkt6) (now : Clk) :
    (s.dispatchAbs p now).out = s.out ++ (s.path (decodeAbs p) now).2 ++ (s.tapped (decodeAbs p) now).2 :=
  (List.append_assoc _ _ _).symm

/-- The commit leaves the synthetic button to stage 7 (R180). -/
theorem State.dispatchAbs_button (s : State) (p : Pkt6) (now : Clk) :
    (s.dispatchAbs p now).mot.button = (s.tapped (decodeAbs p) now).1.button := rfl

/-- Settles O38: the events of each path, and those of stage 7 with and without a click. -/
theorem pathDecidesTheEventPort : Obligations.PathDecidesTheEventPort := by
  intro s p now
  refine ⟨s.dispatchAbs p now, _, _, exec_pktAbs6 p now s, State.dispatchAbs_out_eq s p now,
    State.path_events_of_twoFinger now, fun htf hedge => ?_, fun htf hedge => ?_,
    fun h => (State.tapped_of_click now h).1, fun h => (State.tapped_of_no_click now h).1⟩
  · obtain ⟨e, he, hscroll⟩ := State.path_events_of_edgeScroll now htf hedge
    rw [he]
    exact ⟨rfl, List.forall_mem_singleton.2 hscroll⟩
  · obtain ⟨e, he, hmotion⟩ := State.path_events_of_move now htf hedge
    rw [he]
    exact ⟨rfl, List.forall_mem_singleton.2 hmotion⟩

/-- Settles O40: stage 7 with and without a click, after the one event at most of the path. -/
theorem clickExactlyOnAShortTapRelease : Obligations.ClickExactlyOnAShortTapRelease := by
  intro s p now
  refine ⟨s.dispatchAbs p now, _, exec_pktAbs6 p now s,
    (State.dispatchAbs_out_eq s p now).trans (List.append_assoc _ _ _), fun htc hprev hclicking hunder => ?_,
    fun hnot => ?_⟩
  · obtain ⟨hevents, hbutton⟩ := State.tapped_of_click (s := s) (smp := decodeAbs p) now ⟨htc, hprev, hclicking, hunder⟩
    rw [← State.dispatchAbs_button, MotionState.button, Prod.mk.injEq, Prod.mk.injEq] at hbutton
    exact ⟨by rw [hevents, List.getLast?_concat], hbutton⟩
  · have hno : ¬s.clickReleased (decodeAbs p) now := by
      rintro ⟨htc, hprev, hclicking, hunder⟩
      rcases hnot with h | h | h | h
      · exact absurd (htc.symm.trans h) (by decide)
      · exact absurd (hprev.symm.trans h) (by decide)
      · exact absurd (hclicking.symm.trans h) (by decide)
      · omega
    obtain ⟨hevents, hbutton⟩ := State.tapped_of_no_click now hno
    rw [← State.dispatchAbs_button, MotionState.button, MotionState.button, Prod.mk.injEq, Prod.mk.injEq] at hbutton
    rw [hevents, List.append_nil]
    exact ⟨stagePath_length_le _ _ _ _ _ _, hbutton⟩

/-! ### The counter, the flags and the events of a packet outside a click -/

theorem endTouch_cnt (tap : Bool) (m : MotionState) : (endTouch tap m).cnt = m.cnt := by
  obtain ⟨tm, tf, h⟩ := endTouch_frame tap m
  rw [h]

theorem stageTapClick_cnt (par : Params) (cfg : ConfigRegs) (tap tapClick : Bool) (buttons : Buttons) (now : Clk)
    (m : MotionState) : (stageTapClick par cfg tap tapClick buttons now m).1.cnt = m.cnt := by
  rcases stageTapClick_cases par cfg tap tapClick buttons now m with ⟨-, h⟩ | ⟨-, -, h⟩ | ⟨-, -, h⟩ <;> rw [h]
  · exact endTouch_cnt tap _
  · exact endTouch_cnt tap m

/-- The counter after a packet is the path's (R162, R163). -/
theorem State.dispatchAbs_cnt (s : State) (p : Pkt6) (now : Clk) :
    (s.dispatchAbs p now).mot.cnt = (s.path (decodeAbs p) now).1.cnt :=
  stageTapClick_cnt s.par s.cfg _ _ _ now (s.path (decodeAbs p) now).1

/-- With no tap-click flag before it, a packet emits the events of its path only. -/
theorem State.dispatchAbs_out_of_not_pending {s : State} (p : Pkt6) (now : Clk) (h : s.mot.prevTapClick = false) :
    (s.dispatchAbs p now).out = s.out ++ (s.path (decodeAbs p) now).2 := by
  have hno : ¬s.clickReleased (decodeAbs p) now := fun ⟨_, hprev, _⟩ => absurd (hprev.symm.trans h) (by decide)
  rw [State.dispatchAbs_out_eq, (State.tapped_of_no_click now hno).1, List.append_nil]

theorem State.entered_cnt (s : State) (smp : Sample) : (s.entered smp).cnt = s.mot.cnt := by
  obtain ⟨tf, rx, ry, h⟩ := stageTfEntry_frame s.cfg smp.x smp.y smp.z s.mot
  rw [State.entered, h]

/-! ### Packets in two-finger mode -/

/-- In two-finger mode with the gate shut and no tap-click flag pending (R162). -/
def State.GateShut (s : State) : Prop :=
  s.mot.twoFinger = true ∧ s.mot.prevTapClick = false ∧ s.mot.cnt.toNat < 4

/-- Two-finger scroll counts the packet, or opens the gate on the fourth with one `SCROLL` (R162). -/
theorem stageTfScroll_counts (cfg : ConfigRegs) (x : XCoord) (y : YCoord) (now : Clk) {m : MotionState}
    (hcnt : m.cnt.toNat < 4) :
    (stageTfScroll cfg x y now m).1.cnt.toNat < 4 ∧
    (stageTfScroll cfg x y now m).1.cnt.toNat + 4 * (stageTfScroll cfg x y now m).2.length = m.cnt.toNat + 1 := by
  rcases stageTfScroll_cases cfg x y now m with ⟨hopen, h⟩ | ⟨hshut, h⟩ <;> rw [h]
  · have hzero : (0 : BitVec 8).toNat = 0 := rfl
    simp only [hzero, List.length_singleton]
    omega
  · simp only [satSucc_toNat, List.length_nil]
    omega

/-- One packet in two-finger mode: the mode stays, and four counted packets weigh as much as one `SCROLL` (R162). -/
theorem State.dispatchAbs_gateShut {s : State} {p : Pkt6} (now : Clk) (h : s.GateShut) (htap : (decodeAbs p).tap = true)
    (htc : (decodeAbs p).tapClick = false) :
    (s.dispatchAbs p now).GateShut ∧ ∃ es, (s.dispatchAbs p now).out = s.out ++ es ∧ (∀ e ∈ es, e.isScroll = true) ∧
      (s.dispatchAbs p now).mot.cnt.toNat + 4 * es.length = s.mot.cnt.toNat + 1 := by
  obtain ⟨htf, hprev, hcnt⟩ := h
  have hafter : s.twoFingerAfterEntry (decodeAbs p) := .inl htf
  obtain ⟨hlt, hsum⟩ := stageTfScroll_counts s.cfg (decodeAbs p).x (decodeAbs p).y now
    (m := s.entered (decodeAbs p)) (by rwa [State.entered_cnt])
  rw [← State.path_of_twoFinger now hafter] at hlt hsum
  rw [State.entered_cnt] at hsum
  rw [State.GateShut, State.dispatchAbs_cnt]
  refine ⟨⟨?_, htc, hlt⟩, _, State.dispatchAbs_out_of_not_pending p now hprev,
    (State.path_events_of_twoFinger now hafter).2, hsum⟩
  rw [State.dispatchAbs_twoFinger, State.path_twoFinger, State.entered_twoFinger_iff.2 hafter, htap]
  rfl

theorem packetAll_gateShut (ps : List (Pkt6 × Clk)) {s : State} (h : s.GateShut)
    (hps : ∀ p ∈ ps, (decodeAbs p.1).tap = true ∧ (decodeAbs p.1).tapClick = false) :
    ∃ t es, packetAll ps s = .next t ∧ t.GateShut ∧ t.out = s.out ++ es ∧ (∀ e ∈ es, e.isScroll = true) ∧
      t.mot.cnt.toNat + 4 * es.length = s.mot.cnt.toNat + ps.length := by
  induction ps generalizing s with
  | nil => exact ⟨s, [], rfl, h, (List.append_nil _).symm, List.forall_mem_nil _, rfl⟩
  | cons p ps ih =>
    obtain ⟨⟨htap, htc⟩, htail⟩ := List.forall_mem_cons.1 hps
    obtain ⟨hnext, es, hout, hes, hsum⟩ := State.dispatchAbs_gateShut p.2 h htap htc
    obtain ⟨t, fs, hrun, hend, hout', hfs, hsum'⟩ := ih hnext htail
    refine ⟨t, es ++ fs, hrun, hend, by rw [hout', hout, List.append_assoc], List.forall_mem_append.2 ⟨hes, hfs⟩, ?_⟩
    rw [List.length_append, List.length_cons]
    omega

/-- Settles O41: from the counter 0, the number of `SCROLL`s and the counter are the quotient and the remainder by 4. -/
theorem twoFingerScrollsOnEveryFourthPacket : Obligations.TwoFingerScrollsOnEveryFourthPacket := by
  intro ps s htf hcnt hprev hps
  have hzero : s.mot.cnt.toNat = 0 := by rw [hcnt]; rfl
  obtain ⟨t, es, hrun, ⟨htf', -, hlt⟩, hout, hes, hsum⟩ := packetAll_gateShut ps ⟨htf, hprev, by omega⟩ hps
  exact ⟨t, es, hrun, hout, by omega, hes, by omega, htf'⟩

/-! ### Packets on the right edge -/

/-- A sample on the right edge with the pressure in the band and without the tap-click flag (R156, R160). -/
def Sample.OnRightEdge (smp : Sample) : Prop :=
  900 < smp.x.toNat ∧ smp.y.toNat ≤ 650 ∧ 20 < smp.z.toNat ∧ smp.z.toNat < 69 ∧ smp.tapClick = false

/-- After `n` packets on the right edge: counted up to 255, and scrolling not before the 22nd (R163, R164). -/
def State.EdgeAfter (s : State) (n : Nat) : Prop :=
  s.mot.twoFinger = false ∧ s.mot.prevTapClick = false ∧ s.cfg.vscrollEn = true ∧ s.mot.cnt.toNat = min n 255 ∧
    (n < 21 → s.mot.touchMode ≠ .vScroll)

theorem State.EdgeAfter.not_twoFingerAfterEntry {s : State} {n : Nat} {smp : Sample} (h : s.EdgeAfter n)
    (hsmp : smp.OnRightEdge) : ¬s.twoFingerAfterEntry smp := by
  obtain ⟨htf, -⟩ := h
  obtain ⟨-, -, -, hz, -⟩ := hsmp
  rintro (h | ⟨h, -⟩)
  · exact absurd (htf.symm.trans h) (by decide)
  · omega

theorem State.EdgeAfter.willScrollOn {s : State} {n : Nat} {smp : Sample} (h : s.EdgeAfter n)
    (hsmp : smp.OnRightEdge) : s.willScrollOn smp := by
  obtain ⟨-, -, hen, -⟩ := h
  obtain ⟨hx, hy, hlo, hhi, -⟩ := hsmp
  exact ⟨hlo, hhi, .inl ⟨.inr (.inl ⟨hx, hy, rfl⟩), hen⟩⟩

/-- The packet after `n` scrolls exactly if `n` is at least 21 (R161, R163). -/
theorem State.EdgeAfter.edgeScrollOn_iff {s : State} {n : Nat} {smp : Sample} (h : s.EdgeAfter n)
    (hsmp : smp.OnRightEdge) : s.edgeScrollOn smp ↔ 21 ≤ n := by
  have hwill := h.willScrollOn hsmp
  obtain ⟨-, -, -, hcnt, hmode⟩ := h
  rw [State.edgeScrollOn, hcnt]
  constructor
  · rintro ⟨-, hpast | hmid⟩
    · omega
    · exact not_lt.1 fun hlt => hmode hlt hmid
  · exact fun hle => ⟨hwill, .inl (by omega)⟩

/-- Outside two-finger mode the path leaves the counter as the debounce sets it (R163). -/
theorem State.path_cnt_of_willScroll {s : State} {smp : Sample} (now : Clk) (htf : ¬s.twoFingerAfterEntry smp)
    (hwill : s.willScrollOn smp) : (s.path smp now).1.cnt = satSucc s.mot.cnt := by
  have hcnt : (s.debouncedEntry smp).cnt = satSucc s.mot.cnt := by
    rw [State.debouncedEntry, State.sampleRegion, (willScrollFlag_iff s smp).2 hwill, debounce, if_pos rfl,
      State.entered_cnt]
  rw [← hcnt]
  by_cases hedge : s.edgeScrollOn smp
  · rw [State.path_of_edgeScroll now htf hedge]
    rfl
  · rw [State.path_of_move now htf hedge]
    rfl

/-- A packet on the motion path does not leave `V_SCROLL` (R166, R176). -/
theorem State.dispatchAbs_touchMode_of_move {s : State} {p : Pkt6} (now : Clk)
    (htf : ¬s.twoFingerAfterEntry (decodeAbs p)) (hedge : ¬s.edgeScrollOn (decodeAbs p)) :
    (s.dispatchAbs p now).mot.touchMode ≠ .vScroll := by
  rw [State.dispatchAbs_touchMode, State.path_of_move now htf hedge]
  cases (decodeAbs p).tapClick
  · cases htap : (decodeAbs p).tap
    · exact fun h => by cases h
    · exact fun h => by cases h
  · exact fun h => by cases h

/-- One more packet on the right edge: a `MOTION` up to the 21st, a `SCROLL` from the 22nd on (R163, R164). -/
theorem State.dispatchAbs_edgeAfter {s : State} {n : Nat} {p : Pkt6} (now : Clk) (h : s.EdgeAfter n)
    (hp : (decodeAbs p).OnRightEdge) :
    (s.dispatchAbs p now).EdgeAfter (n + 1) ∧
    ∃ e, (s.dispatchAbs p now).out = s.out ++ [e] ∧ e.isScroll = decide (21 ≤ n) := by
  have htf := h.not_twoFingerAfterEntry hp
  have hedge := h.edgeScrollOn_iff hp
  have hpath := State.path_cnt_of_willScroll now htf (h.willScrollOn hp)
  obtain ⟨-, hprev, hen, hcnt, -⟩ := h
  obtain ⟨-, -, -, -, htc⟩ := hp
  refine ⟨⟨?twoFinger, htc, hen, ?cnt, fun hlt => State.dispatchAbs_touchMode_of_move now htf ?_⟩, ?event⟩
  case twoFinger =>
    rw [State.dispatchAbs_twoFinger, State.path_twoFinger,
      Bool.eq_false_iff.2 fun hent => htf (State.entered_twoFinger_iff.1 hent)]
    rfl
  case cnt =>
    rw [State.dispatchAbs_cnt, hpath, satSucc_toNat, hcnt]
    omega
  · rw [hedge]
    omega
  case event =>
    rw [State.dispatchAbs_out_of_not_pending p now hprev]
    by_cases hn : 21 ≤ n
    · obtain ⟨e, he, hscroll⟩ := State.path_events_of_edgeScroll now htf (hedge.2 hn)
      exact ⟨e, by rw [he], by rw [hscroll, decide_eq_true hn]⟩
    · obtain ⟨e, he, hmotion⟩ := State.path_events_of_move now htf (fun hc => hn (hedge.1 hc))
      exact ⟨e, by rw [he], by rw [hmotion, decide_eq_false hn]⟩

theorem packetAll_edgeAfter (ps : List (Pkt6 × Clk)) {s : State} {n : Nat} (h : s.EdgeAfter n)
    (hps : ∀ p ∈ ps, (decodeAbs p.1).OnRightEdge) :
    ∃ t es, packetAll ps s = .next t ∧ t.EdgeAfter (n + ps.length) ∧ t.out = s.out ++ es ∧ es.length = ps.length ∧
      (∀ e ∈ es.take (21 - n), e.isScroll = false) ∧ (∀ e ∈ es.drop (21 - n), e.isScroll = true) := by
  induction ps generalizing s n with
  | nil => exact ⟨s, [], rfl, h, (List.append_nil _).symm, rfl, by simp, by simp⟩
  | cons p ps ih =>
    obtain ⟨hhead, htail⟩ := List.forall_mem_cons.1 hps
    obtain ⟨hnext, e, hout, hkind⟩ := State.dispatchAbs_edgeAfter p.2 h hhead
    obtain ⟨t, es, hrun, hend, hout', hlen, hmotion, hscroll⟩ := ih hnext htail
    refine ⟨t, e :: es, hrun, ?_, by rw [hout', hout, List.append_assoc]; rfl, by rw [List.length_cons, hlen]; rfl, ?_⟩
    · rwa [List.length_cons, Nat.add_comm ps.length, ← Nat.add_assoc]
    · by_cases hn : 21 ≤ n
      · have hzero : 21 - (n + 1) = 0 := by omega
        rw [hzero, List.drop_zero] at hscroll
        rw [Nat.sub_eq_zero_of_le hn, List.take_zero, List.drop_zero]
        exact ⟨List.forall_mem_nil _, List.forall_mem_cons.2 ⟨by rw [hkind, decide_eq_true hn], hscroll⟩⟩
      · have hsucc : 21 - n = (21 - (n + 1)) + 1 := by omega
        rw [hsucc, List.take_succ_cons, List.drop_succ_cons]
        exact ⟨List.forall_mem_cons.2 ⟨by rw [hkind, decide_eq_false hn], hmotion⟩, hscroll⟩

/-- Settles O42: from the counter 0 no packet has been counted yet. -/
theorem edgeScrollBeginsOnTheTwentySecondPacket : Obligations.EdgeScrollBeginsOnTheTwentySecondPacket := by
  intro ps s htf hcnt hmode hprev hen hps
  have hzero : s.mot.cnt.toNat = min 0 255 := by rw [hcnt]; rfl
  obtain ⟨t, es, hrun, ⟨-, -, -, hcount, -⟩, hout, hlen, hmotion, hscroll⟩ :=
    packetAll_edgeAfter ps (n := 0) ⟨htf, hprev, hen, hzero, fun _ => hmode⟩ hps
  exact ⟨t, es, hrun, hout, hlen, hmotion, hscroll, by rwa [Nat.zero_add] at hcount⟩

end Sys2Proof.Machine
end

section
/-! One step of the block (20_memory R53, 44_config_timer R213, 60_exceptions R240): which operation a word runs, and
every next state by the port of the word. The invariants of one step are read off these cases. -/

namespace Sys2Proof.Machine

/-! ### The operation of a word -/

/-- Settles O1: `State.decodeWord` is the decoder for the framer as it stands. -/
theorem stepRunsTheDecodedOperation : Obligations.StepRunsTheDecodedOperation := by
  intro s w rest hin
  refine ⟨fun i hd => step_of_decoded hin hd, fun e he => ?_⟩
  have hd : s.decodeWord w = .error e := he
  simp only [step, hin, hd]

/-- Settles O2: the timer's two cases. -/
theorem stepWithNothingPendingIsTheTimer : Obligations.StepWithNothingPendingIsTheTimer := by
  intro s hin
  rw [step_of_input_nil hin]
  refine ⟨timerReleasesTheSyntheticButton s, fun hidle => ?_⟩
  have hskip : execTimerExpire s = .next s := if_neg (by rw [hidle]; decide)
  exact ⟨hskip, hskip⟩

/-- A byte on `BYTE_IN` is one whole `FEED`, in either state of the framer (R53, R100). -/
theorem step_byteIn {s : State} {w : PortWord} {rest : List PortWord} {b : Byte} (hin : s.input = w :: rest)
    (hport : w.port = .byteIn) (hbytes : w.bytes = [b]) :
    step s = exec (.feed b w.clk) { s with input := rest } := by
  have hd : s.decodeWord w = .ok (if s.seeking then startInstr s.par b else .feed b w.clk) := by
    simp only [State.decodeWord, decode, hport, hbytes, decodeByteIn]
  rw [step_of_decoded hin hd]
  cases hseek : s.seeking
  · rfl
  · exact exec_startInstr (s := { s with input := rest }) b w.clk ((State.seeking_iff s).1 hseek)

/-- Settles O3: the word of a byte is a word on `BYTE_IN`. -/
theorem byteStepIsAWholeFeed : Obligations.ByteStepIsAWholeFeed :=
  fun _ b t _ hin => step_byteIn (w := byteWord b t) hin rfl rfl

/-- The word of a configuration write runs the write of its register number (R81, R202). -/
theorem step_cfgWord {s : State} {rest : List PortWord} {r : BitVec 4} {v : BitVec 64}
    (hin : s.input = cfgWord r v :: rest) : step s = exec (cfgInstr r v) { s with input := rest } :=
  step_of_decoded hin (decodeCfg_cfgWord r v)

/-- Settles O4: each line is one word, which decodes to its operation whatever the framer's state. -/
theorem scriptLineStepsRunTheirOperation : Obligations.ScriptLineStepsRunTheirOperation := by
  intro s n rest
  refine ⟨fun hin => step_of_decoded hin rfl, fun m hin => step_of_decoded hin ?_, fun r v hin => step_cfgWord hin,
    fun b t hin => byteStepIsAWholeFeed s b t rest hin, fun b hin => byteStepIsAWholeFeed s b _ rest hin⟩
  exact Laws.WordDecodes.modew m s.par s.seeking _ rfl rfl (fun h => by cases h) (fun _ _ h => by cases h)

/-! ### The configuration writes -/

/-- The configuration registers after `CFGW r, v`: the register of the number takes the value of R81 (R202). -/
def ConfigRegs.written (c : ConfigRegs) (r : BitVec 4) (v : BitVec 64) : ConfigRegs :=
  match r.toNat with
  | 1 => { c with clicking := cfgBool v }
  | 2 => { c with dragging := cfgBool v }
  | 3 => { c with draglock := cfgBool v }
  | 4 => { c with hscrollEn := cfgBool v }
  | 5 => { c with vscrollEn := cfgBool v }
  | 6 => { c with scrollAccelRaw := cfgS32 v }
  | 7 => { c with pointerAccelRaw := cfgS32 v }
  | 8 => { c with maxTapTime := v }
  | _ => c

/-- `CFGW r, v` writes the configuration registers only (R202). -/
theorem exec_cfgInstr (r : BitVec 4) (v : BitVec 64) (s : State) :
    exec (cfgInstr r v) s = .next (s.setCfg (s.cfg.written r v)) := by
  obtain ⟨⟨n, hn⟩⟩ := r
  interval_cases n <;> rfl

/-! ### Every next state of a step -/

/-- Everything a step can do, by the port of the word it runs (R81, R213). -/
theorem step_port_cases {s t : State} (h : step s = .next t) :
    (s.input = [] ∧ execTimerExpire s = .next t) ∨
    ∃ w rest, s.input = w :: rest ∧
      ((w.port = .rst ∧ exec .reset { s with input := rest } = .next t) ∨
        (w.port = .byteIn ∧ ∃ b, exec (.feed b w.clk) { s with input := rest } = .next t) ∨
        ((w.port = .mode ∨ w.port = .cfg) ∧ ∃ c, t = ({ s with input := rest } : State).setCfg c)) := by
  rcases step_cases h with hnil | ⟨w, rest, i, hin, hd, hx⟩
  · exact .inl hnil
  · refine .inr ⟨w, rest, hin, ?_⟩
    rcases decode_cases hd with ⟨hport, -, rfl⟩ | ⟨hport, b, hbytes, -⟩ | ⟨hport, m, -, rfl⟩ | ⟨hport, r, v, -, rfl⟩
    · exact .inl ⟨hport, hx⟩
    · exact .inr (.inl ⟨hport, b, (step_byteIn hin hport hbytes).symm.trans h⟩)
    · cases hx
      exact .inr (.inr ⟨.inl hport, _, rfl⟩)
    · cases (exec_cfgInstr r v _).symm.trans hx
      exact .inr (.inr ⟨.inr hport, _, rfl⟩)

/-- A `FEED` leaves the configuration, the parameters and the script alone, and appends events (R53, R235). -/
theorem exec_feed_frame {s u : State} {b : Byte} {t : Clk} (h : exec (.feed b t) s = .next u) :
    u.cfg = s.cfg ∧ u.par = s.par ∧ u.input = s.input ∧ ∃ es, u.out = s.out ++ es := by
  rcases execFeed_cases b t s with ⟨-, -, he⟩ | ⟨-, he⟩ <;> cases he.symm.trans h
  · exact ⟨rfl, rfl, rfl, [], (List.append_nil _).symm⟩
  · obtain ⟨-, hcfg, hpar, -, hinput, hout⟩ := State.accept_frame s b t
    exact ⟨hcfg, hpar, hinput, hout⟩

/-- The timer's chance leaves everything alone but the button-up's registers and the events (R212). -/
theorem execTimerExpire_frame {s t : State} (h : execTimerExpire s = .next t) :
    t.buf = s.buf ∧ t.cfg = s.cfg ∧ t.par = s.par ∧ t.input = s.input ∧ ∃ es, t.out = s.out ++ es := by
  rcases execTimerExpire_cases s with ⟨-, he⟩ | ⟨-, he⟩ <;> cases he.symm.trans h
  · exact ⟨rfl, rfl, rfl, rfl, _, rfl⟩
  · exact ⟨rfl, rfl, rfl, rfl, [], (List.append_nil _).symm⟩

/-- Settles O6: on each port. -/
theorem stepOnlyAppendsEventsAndKeepsParameters : Obligations.StepOnlyAppendsEventsAndKeepsParameters := by
  intro s t h
  rcases step_port_cases h with ⟨hin, hx⟩ | ⟨w, rest, hin, ⟨-, hx⟩ | ⟨-, b, hx⟩ | ⟨-, c, rfl⟩⟩
  · obtain ⟨-, -, hpar, hinput, hout⟩ := execTimerExpire_frame hx
    exact ⟨hpar, by rw [hinput, hin, List.tail_nil], hout⟩
  · cases hx
    exact ⟨rfl, by rw [hin, List.tail_cons], [], (List.append_nil _).symm⟩
  · obtain ⟨-, hpar, hinput, hout⟩ := exec_feed_frame hx
    exact ⟨hpar, by rw [hinput, hin, List.tail_cons], hout⟩
  · exact ⟨rfl, by rw [hin, List.tail_cons, State.setCfg_input], [], (List.append_nil _).symm⟩

/-! ### Who writes what -/

/-- Settles O57: the timer and a `FEED` write no configuration register; of the words, only a byte's writes `buf`. -/
theorem onlyTheHostPortsWriteTheConfiguration : Obligations.OnlyTheHostPortsWriteTheConfiguration := by
  intro s t h
  rcases step_port_cases h with ⟨-, hx⟩ | ⟨w, rest, hin, ⟨hport, hx⟩ | ⟨hport, b, hx⟩ | ⟨hport, c, rfl⟩⟩
  · obtain ⟨hbuf, hcfg, -⟩ := execTimerExpire_frame hx
    exact ⟨fun hne => absurd hcfg hne, fun hne => absurd hbuf hne⟩
  · cases hx
    exact ⟨fun _ => ⟨w, rest, hin, by rw [hport]; rfl⟩, fun hne => absurd rfl hne⟩
  · obtain ⟨hcfg, -⟩ := exec_feed_frame hx
    exact ⟨fun hne => absurd hcfg hne, fun _ => ⟨w, rest, hin, hport⟩⟩
  · exact ⟨fun _ => ⟨w, rest, hin, by rcases hport with hport | hport <;> rw [hport] <;> rfl⟩,
      fun hne => absurd rfl hne⟩

/-- A `FEED` does to MotionState: nothing, a due button-up before a relative packet, or an absolute packet (R33). -/
theorem exec_feed_mot_cases {s u : State} {b : Byte} {t : Clk} (h : exec (.feed b t) s = .next u) :
    u.mot = s.mot ∨
    (s.count.val = 3 ∧ s.cfg.pktMode = .rel4 ∧ s.mot.tapArmed = true ∧ s.mot.tapDeadline ≤ t.toNat ∧
      u.mot = { s.mot with tapBtn := false, tapArmed := false }) ∨
    (s.count.val = 5 ∧ ∃ r p, u.mot = (State.dispatchAbs r p t).mot ∧ r = (s.append b).expireIfDue t) := by
  rcases exec_feed_cases h with ⟨-, -, rfl⟩ | ⟨-, -, rfl⟩ | ⟨hthree, hmode, rfl⟩ | ⟨hfive, rfl⟩
  · exact .inl rfl
  · exact .inl rfl
  · rw [State.setCount_mot, State.dispatchRel4_mot]
    rcases State.expireIfDue_cases (s.append b) t with ⟨hdue, he⟩ | ⟨-, he⟩ <;> rw [he]
    · obtain ⟨harmed, hle⟩ := (buttonUpDue_iff t s.mot).1 hdue
      exact .inr (.inl ⟨hthree, hmode, harmed, hle, rfl⟩)
    · exact .inl rfl
  · exact .inr (.inr ⟨hfive, _, _, rfl, rfl⟩)

/-- Settles O56: each port's write of MotionState, if it makes one. -/
theorem onlyPacketsTimerAndResetWriteMotionState : Obligations.OnlyPacketsTimerAndResetWriteMotionState := by
  intro s t h hne
  rcases step_port_cases h with ⟨hin, hx⟩ | ⟨w, rest, hin, ⟨hport, -⟩ | ⟨hport, b, hx⟩ | ⟨-, c, rfl⟩⟩
  · rcases execTimerExpire_cases s with ⟨harmed, -⟩ | ⟨-, he⟩
    · exact .inl ⟨hin, harmed⟩
    · cases he.symm.trans hx
      exact absurd rfl hne
  · exact .inr ⟨w, rest, hin, .inl hport⟩
  · rcases exec_feed_mot_cases hx with heq | ⟨hthree, hmode, harmed, hle, hmot⟩ | ⟨hfive, -⟩
    · exact absurd heq hne
    · exact .inr ⟨w, rest, hin, .inr (.inr ⟨hport, hthree, hmode, harmed, hle, hmot⟩)⟩
    · exact .inr ⟨w, rest, hin, .inr (.inl ⟨hport, hfive⟩)⟩
  · exact absurd rfl hne

/-! ### Scrolling with pressure -/

/-- An absolute packet leaves `V_SCROLL` outside two-finger mode only by edge scroll, whose band excludes the pressure 0
(R160, R161, R164). -/
theorem State.dispatchAbs_scrollPressure (s : State) (p : Pkt6) (now : Clk) : (s.dispatchAbs p now).scrollPressure := by
  intro hmode htf
  by_cases hafter : s.twoFingerAfterEntry (decodeAbs p)
  · rw [State.dispatchAbs_twoFinger, State.path_twoFinger, State.entered_twoFinger_iff.2 hafter, Bool.true_and,
      Bool.or_eq_false_iff] at htf
    obtain ⟨htap, htc⟩ := htf
    rw [State.dispatchAbs_touchMode, htc, htap] at hmode
    cases hmode
  · by_cases hedge : s.edgeScrollOn (decodeAbs p)
    · obtain ⟨⟨hband, -⟩, -⟩ := hedge
      rw [State.dispatchAbs_prevZ]
      intro hzero
      rw [decodeAbs_z, hzero] at hband
      exact absurd hband (by decide)
    · exact absurd hmode (State.dispatchAbs_touchMode_of_move now hafter hedge)

/-- A `FEED` keeps scrolling with pressure. -/
theorem State.scrollPressure.feed {s u : State} {b : Byte} {t : Clk} (hs : s.scrollPressure)
    (h : exec (.feed b t) s = .next u) : u.scrollPressure := by
  unfold State.scrollPressure
  rcases exec_feed_mot_cases h with heq | ⟨-, -, -, -, hmot⟩ | ⟨-, r, p, hmot, -⟩
  · rw [heq]
    exact hs
  · rw [hmot]
    exact hs
  · rw [hmot]
    exact State.dispatchAbs_scrollPressure r p t

/-- Settles O54: of the operations a step can run, only an absolute packet and `RESET` write the three registers. -/
theorem everyStepKeepsScrollingWithPressure : Obligations.EveryStepKeepsScrollingWithPressure := by
  intro s t hs h
  rcases step_port_cases h with ⟨-, hx⟩ | ⟨w, rest, -, ⟨-, hx⟩ | ⟨-, b, hx⟩ | ⟨-, c, rfl⟩⟩
  · rcases execTimerExpire_cases s with ⟨-, he⟩ | ⟨-, he⟩ <;> cases he.symm.trans hx <;> exact hs
  · cases hx
    intro hmode
    cases hmode
  · exact State.scrollPressure.feed (s := { s with input := rest }) hs hx
  · exact hs

/-! ### Timestamps in order -/

section
variable {s : State} {τ : Time}

/-- An owed button-up is not due before the time of the order. -/
theorem State.timeOrdered.due (h : s.timeOrdered τ) (harmed : s.mot.tapArmed = true) : τ ≤ s.mot.tapDeadline := by
  obtain ⟨-, -, hdue⟩ := h
  exact hdue harmed

/-- The order speaks of the events and of the scheduled button-up only. -/
theorem State.timeOrdered.of_eq (h : s.timeOrdered τ) {t : State} (hout : t.out = s.out) (hmot : t.mot = s.mot) :
    t.timeOrdered τ := by
  unfold State.timeOrdered
  rwa [hout, hmot]

/-- Events of one time, not before the ones that have left, keep the order. -/
theorem State.timeOrdered.append (h : s.timeOrdered τ) {t : State} {now : Time} (hle : τ ≤ now) {es : List Event}
    (hout : t.out = s.out ++ es) (hes : ∀ e ∈ es, e.ts = now)
    (hdue : t.mot.tapArmed = true → now ≤ t.mot.tapDeadline) : t.timeOrdered now := by
  obtain ⟨hpair, hlast, -⟩ := h
  refine ⟨?_, ?_, hdue⟩ <;> rw [hout]
  · refine List.pairwise_append.2 ⟨hpair, List.pairwise_of_forall_mem_list ?_, fun a ha e he => ?_⟩
    · exact fun a ha b hb => by rw [hes a ha, hes b hb]
    · rw [hes e he]
      exact (hlast a ha).trans hle
  · exact List.forall_mem_append.2 ⟨fun e he => (hlast e he).trans hle, fun e he => (hes e he).le⟩

/-- The button-up leaves at its scheduled time (R212). -/
theorem State.timeOrdered.expire (h : s.timeOrdered τ) (harmed : s.mot.tapArmed = true) :
    s.expire.timeOrdered s.mot.tapDeadline :=
  h.append (h.due harmed) (State.expire_out s) (List.forall_mem_singleton.2 rfl) fun hf => by cases hf

/-- After the button-up that is due at `now`, everything is in order up to `now` (R108, R216). -/
theorem State.timeOrdered.expireIfDue (h : s.timeOrdered τ) {now : Clk} (hle : τ ≤ now.toNat) :
    (s.expireIfDue now).timeOrdered now.toNat := by
  rcases State.expireIfDue_cases s now with ⟨hdue, he⟩ | ⟨hnot, he⟩ <;> rw [he]
  · obtain ⟨harmed, hdeadline⟩ := (buttonUpDue_iff now s.mot).1 hdue
    exact (h.expire harmed).append hdeadline (List.append_nil _).symm (List.forall_mem_nil _) fun hf => by cases hf
  · refine h.append hle (List.append_nil _).symm (List.forall_mem_nil _) fun harmed => ?_
    by_contra hlt
    exact absurd ((buttonUpDue_iff now s.mot).2 ⟨harmed, (not_le.1 hlt).le⟩) (by rw [hnot]; decide)

end

/-- Every event of an absolute packet carries the dispatch clock value (R162, R164, R166, R174). -/
theorem State.path_ts {s : State} {smp : Sample} (now : Clk) : ∀ e ∈ (s.path smp now).2, e.ts = now.toNat := by
  rw [State.path]
  rcases stagePath_cases s.par s.cfg smp (s.sampleRegion smp) now (s.entered smp) with
    ⟨-, h⟩ | ⟨-, -, h⟩ | ⟨-, -, h⟩ <;> rw [h]
  · rcases stageTfScroll_cases s.cfg smp.x smp.y now (s.entered smp) with ⟨-, h⟩ | ⟨-, h⟩ <;> rw [h]
    · exact List.forall_mem_singleton.2 rfl
    · exact List.forall_mem_nil _
  · exact List.forall_mem_singleton.2 rfl
  · exact List.forall_mem_singleton.2 rfl

/-- An absolute packet dispatched at the time of the order keeps it: a click's button-up is scheduled later (R174). -/
theorem State.timeOrdered.dispatchAbs {s : State} {now : Clk} (h : s.timeOrdered now.toNat) (p : Pkt6) :
    (s.dispatchAbs p now).timeOrdered now.toNat := by
  have hout := (State.dispatchAbs_out_eq s p now).trans (List.append_assoc _ _ _)
  have hbutton := State.dispatchAbs_button s p now
  have hdue : s.mot.tapArmed = true → now.toNat ≤ s.mot.tapDeadline := h.due
  by_cases hclick : s.clickReleased (decodeAbs p) now
  · obtain ⟨hevents, hb⟩ := State.tapped_of_click now hclick
    rw [hb, MotionState.button, Prod.mk.injEq, Prod.mk.injEq] at hbutton
    obtain ⟨-, -, hdeadline⟩ := hbutton
    refine h.append le_rfl hout (List.forall_mem_append.2 ⟨State.path_ts now, ?_⟩) fun _ => ?_
    · rw [hevents]
      exact List.forall_mem_singleton.2 rfl
    · rw [hdeadline]
      exact Nat.le_add_right _ _
  · obtain ⟨hevents, hb⟩ := State.tapped_of_no_click now hclick
    rw [hb, MotionState.button, MotionState.button, Prod.mk.injEq, Prod.mk.injEq] at hbutton
    obtain ⟨-, harmed, hdeadline⟩ := hbutton
    refine h.append le_rfl hout (List.forall_mem_append.2 ⟨State.path_ts now, ?_⟩) ?_
    · rw [hevents]
      exact List.forall_mem_nil _
    · rwa [harmed, hdeadline]

/-- A `FEED` keeps the order: up to its clock value where it completes a packet, as it was elsewhere (R108, R216). -/
theorem State.timeOrdered.feed {s u : State} {τ : Time} {b : Byte} {t : Clk} (hs : s.timeOrdered τ)
    (h : exec (.feed b t) s = .next u) (hle : s.byteCompletes → τ ≤ t.toNat) :
    (s.byteCompletes ∧ u.timeOrdered t.toNat) ∨ u.timeOrdered τ := by
  have happend : (s.append b).timeOrdered τ := hs.of_eq rfl rfl
  rcases exec_feed_cases h with ⟨-, -, rfl⟩ | ⟨-, -, rfl⟩ | ⟨hthree, hmode, rfl⟩ | ⟨hfive, rfl⟩
  · exact .inr hs
  · exact .inr hs
  · have hcomp : s.byteCompletes := .inr ⟨hthree, hmode⟩
    have hdue := happend.expireIfDue (hle hcomp)
    have hevents : ∀ e ∈ rel4Events (s.append b).buf.pkt4 t, e.ts = t.toNat :=
      List.forall_mem_cons.2 ⟨rfl, List.forall_mem_singleton.2 rfl⟩
    exact .inl ⟨hcomp, hdue.append le_rfl rfl hevents hdue.due⟩
  · have hcomp : s.byteCompletes := .inl hfive
    exact .inl ⟨hcomp, ((happend.expireIfDue (hle hcomp)).dispatchAbs _).of_eq rfl rfl⟩

/-- The timer's chance keeps the order, up to the time of the button-up it performs (R212, R216). -/
theorem State.timeOrdered.timerExpire {s u : State} {τ : Time} (hs : s.timeOrdered τ)
    (h : execTimerExpire s = .next u) : ∃ τ', τ ≤ τ' ∧ u.timeOrdered τ' := by
  rcases execTimerExpire_cases s with ⟨harmed, he⟩ | ⟨-, he⟩ <;> cases he.symm.trans h
  · exact ⟨_, hs.due harmed, hs.expire harmed⟩
  · exact ⟨τ, le_rfl, hs⟩

/-- Settles O55: a `FEED` and the timer move the time, the operations of the other ports leave it. -/
theorem eventTimestampsStayInOrder : Obligations.EventTimestampsStayInOrder := by
  intro s τ hs
  refine ⟨fun b t u hle h => ?feed, fun u h => hs.timerExpire h, fun u h hle => ?step⟩
  case feed =>
    rcases hs.feed h fun _ => hle with ⟨-, hu⟩ | hu
    · exact ⟨t.toNat, hle, le_rfl, hu⟩
    · exact ⟨τ, le_rfl, hle, hu⟩
  case step =>
    rcases step_port_cases h with ⟨hnil, hx⟩ | ⟨w, rest, hin, hword⟩
    · obtain ⟨τ', hτ', hu⟩ := hs.timerExpire hx
      exact ⟨τ', hτ', hu, fun w rest hin => absurd (hnil.symm.trans hin) (List.cons_ne_nil w rest).symm⟩
    have hsame (hu : u.timeOrdered τ) : ∃ τ', τ ≤ τ' ∧ u.timeOrdered τ' ∧ ∀ w rest, s.input = w :: rest →
        τ' = τ ∨ (w.port = .byteIn ∧ s.byteCompletes ∧ τ' ≤ w.clk.toNat) :=
      ⟨τ, le_rfl, hu, fun _ _ _ => .inl rfl⟩
    rcases hword with ⟨-, hx⟩ | ⟨hport, b, hx⟩ | ⟨-, c, rfl⟩
    · cases hx
      obtain ⟨hpair, hlast, -⟩ := hs
      exact hsame ⟨hpair, hlast, fun hf => by cases hf⟩
    · rcases State.timeOrdered.feed (s := { s with input := rest }) hs hx fun hcomp => hle w rest hin hport hcomp with
        ⟨hcomp, hu⟩ | hu
      · refine ⟨_, hle w rest hin hport hcomp, hu, fun w' rest' hin' => ?_⟩
        cases hin.symm.trans hin'
        exact .inr ⟨hport, hcomp, le_rfl⟩
      · exact hsame hu
    · exact hsame (hs.of_eq rfl rfl)

/-! ### The end of a run -/

/-- A step keeps `tapBtn = tapArmed` (R48), on states of which nothing else is known. -/
theorem step_heldWhileArmed {s t : State} (hs : s.mot.HeldWhileArmed) (h : step s = .next t) :
    t.mot.HeldWhileArmed := by
  rcases step_port_cases h with ⟨-, hx⟩ | ⟨w, rest, -, ⟨-, hx⟩ | ⟨-, b, hx⟩ | ⟨-, c, rfl⟩⟩
  · rcases execTimerExpire_cases s with ⟨-, he⟩ | ⟨-, he⟩ <;> cases he.symm.trans hx
    · rfl
    · exact hs
  · cases hx
    rfl
  · rcases exec_feed_mot_cases hx with heq | ⟨-, -, -, -, hmot⟩ | ⟨-, r, p, hmot, hr⟩
    · rw [heq]
      exact hs
    · rw [hmot]
      rfl
    · rw [hmot]
      refine classify_heldWhileArmed r.par r.cfg _ _ ?_
      rw [hr]
      rcases State.expireIfDue_cases (({ s with input := rest } : State).append b) w.clk with ⟨-, he⟩ | ⟨-, he⟩ <;>
        rw [he]
      · rfl
      · exact hs
  · exact hs

/-- The step that finds nothing pending ends a run: it performs the button-up that is owed (R213, R214). -/
theorem step_ends_run {s : State} (hs : s.mot.HeldWhileArmed) (hin : s.input = []) :
    ∃ t, step s = .next t ∧ t.input = [] ∧ t.mot.tapArmed = false ∧ t.mot.tapBtn = false := by
  rw [step_of_input_nil hin]
  rcases execTimerExpire_cases s with ⟨-, he⟩ | ⟨hidle, he⟩
  · exact ⟨_, he, hin, rfl, rfl⟩
  · exact ⟨_, he, hin, hidle, hs.trans hidle⟩

theorem stepTimes_succ {s t : State} (k : Nat) (h : step s = .next t) : stepTimes (k + 1) s = stepTimes k t := by
  simp only [stepTimes, h]

/-- One step for each word, and one more, end a run of words that decode (R214). -/
theorem stepTimes_ends_run (n : Nat) {s : State} (hlen : s.input.length = n)
    (hdec : ∀ w ∈ s.input, ∀ k, ∃ i, decode s.par k w = .ok i) (hs : s.mot.HeldWhileArmed) :
    ∃ t, stepTimes (n + 1) s = .next t ∧ t.input = [] ∧ t.mot.tapArmed = false ∧ t.mot.tapBtn = false := by
  induction n generalizing s with
  | zero =>
    obtain ⟨t, ht, hend⟩ := step_ends_run hs (List.length_eq_zero_iff.1 hlen)
    exact ⟨t, stepTimes_succ 0 ht, hend⟩
  | succ n ih =>
    obtain ⟨w, rest, hin⟩ := List.exists_cons_of_length_eq_add_one hlen
    obtain ⟨i, hi⟩ := hdec w (by rw [hin]; exact List.mem_cons_self) s.seeking
    obtain ⟨u, hu⟩ := exec_answers i { s with input := rest }
    have hstep : step s = .next u := (step_of_decoded hin hi).trans hu
    obtain ⟨hpar, hinput, -⟩ := stepOnlyAppendsEventsAndKeepsParameters s u hstep
    rw [hin, List.tail_cons] at hinput
    rw [hin, List.length_cons, Nat.add_right_cancel_iff] at hlen
    rw [stepTimes_succ (n + 1) hstep]
    refine ih (by rw [hinput, hlen]) (fun w' hw' => ?_) (step_heldWhileArmed hs hstep)
    rw [hpar]
    exact hdec w' (by rw [hin]; rw [hinput] at hw'; exact List.mem_cons_of_mem w hw')

/-- Settles O59: by induction on the number of pending words. -/
theorem everyRunEndsWithTheButtonReleased : Obligations.EveryRunEndsWithTheButtonReleased := by
  intro s hdec hs
  obtain ⟨t, hrun, hin, harmed, hbtn⟩ := stepTimes_ends_run s.input.length rfl hdec hs
  exact ⟨t, hrun, by rw [State.runOver, hin, harmed]; rfl, hin, harmed, hbtn⟩

end Sys2Proof.Machine
end

section
/-! A configuration register read back (44_config_timer R202, R81): what the register of a write then holds, and that
every other number reads as before. -/

namespace Sys2Proof.Machine

section
variable (s : State) {r : BitVec 4} (v : BitVec 64)

/-- A write leaves every other number as it was (R202). -/
theorem State.cfgRead_written_other {q : BitVec 4} (hq : q ≠ r) :
    (s.setCfg (s.cfg.written r v)).cfgRead q = s.cfgRead q := by
  have hne : q.toNat ≠ r.toNat := fun h => hq (BitVec.eq_of_toNat_eq h)
  unfold ConfigRegs.written
  split -- the register written
  all_goals
    unfold State.cfgRead
    split -- the register read
    all_goals first | rfl | omega

/-- A number with no register is ignored (R202, 93 U13). -/
theorem ConfigRegs.written_unassigned (c : ConfigRegs) (hr : r.toNat = 0 ∨ 9 ≤ r.toNat) : c.written r v = c := by
  unfold ConfigRegs.written
  split
  case h_9 => rfl
  all_goals omega

theorem State.cfgRead_written_flag (h1 : 1 ≤ r.toNat) (h5 : r.toNat ≤ 5) :
    (s.setCfg (s.cfg.written r v)).cfgRead r = some ((BitVec.ofBool (cfgBool v)).setWidth 64) := by
  obtain ⟨⟨n, hn⟩⟩ := r
  change 1 ≤ n at h1
  change n ≤ 5 at h5
  interval_cases n <;> rfl

theorem State.cfgRead_written_signed (hr : r.toNat = 6 ∨ r.toNat = 7) :
    (s.setCfg (s.cfg.written r v)).cfgRead r = some ((cfgS32 v).signExtend 64) := by
  rcases hr with hr | hr
  · obtain rfl := BitVec.eq_of_toNat_eq (y := 6#4) hr
    rfl
  · obtain rfl := BitVec.eq_of_toNat_eq (y := 7#4) hr
    rfl

theorem State.cfgRead_written_time (hr : r.toNat = 8) :
    (s.setCfg (s.cfg.written r v)).cfgRead r = some v := by
  obtain rfl := BitVec.eq_of_toNat_eq (y := 8#4) hr
  rfl

end

/-- A 1-bit register as a word: 0 or 1, by whether the value written is 0 (R81). -/
theorem setWidth_ofBool_cfgBool (v : BitVec 64) :
    (BitVec.ofBool (cfgBool v)).setWidth 64 = if v = 0 then 0 else 1 := by
  by_cases hv : v = 0
  · rw [if_pos hv, cfgBool, decide_eq_false (not_not.2 hv)]
    rfl
  · rw [if_neg hv, cfgBool, decide_eq_true hv]
    rfl

/-- A signed register as a word: the low 32 bits of the value written, sign-extended (R81). -/
theorem toInt_signExtend_cfgS32 (v : BitVec 64) :
    ((cfgS32 v).signExtend 64).toInt =
      ((v.toNat % 4294967296 : Nat) : Int) - (if v.toNat % 4294967296 < 2147483648 then 0 else 4294967296) := by
  rw [BitVec.toInt_signExtend_of_le (by decide), BitVec.toInt_eq_toNat_cond, cfgS32, BitVec.toNat_setWidth]
  split <;> split <;> omega

/-- Settles O46: `ConfigRegs.written`, read by the number written and by every other. -/
theorem configurationWriteReadBack : Obligations.ConfigurationWriteReadBack := by
  intro s r v
  refine ⟨_, exec_cfgInstr r v s, rfl, fun q hq => State.cfgRead_written_other s v hq, fun h1 h5 => ?_,
    fun hr => ⟨_, State.cfgRead_written_signed s v hr, toInt_signExtend_cfgS32 v⟩,
    fun hr => State.cfgRead_written_time s v hr, fun hr => ?_⟩
  · rw [State.cfgRead_written_flag s v h1 h5, setWidth_ofBool_cfgBool]
  · rw [ConfigRegs.written_unassigned v s.cfg hr]
    rfl

end Sys2Proof.Machine
end

section
/-! The operations of 43_gesture that tier 1 reads one by one, the output events, and the machine right after reset. -/

namespace Sys2Proof.Machine

/-- The region with the numbers of R7 (R156). -/
theorem regionOf_eq (prev : Region) (x : XCoord) (y : YCoord) : regionOf prev x y =
    if 900 < x.toNat ∧ 650 < y.toNat then (if prev = .v then .v else .h)
    else if 900 < x.toNat then .v else if 650 < y.toNat then .h else .none := by
  simp only [regionOf, Bool.and_eq_true, inVertical_iff, inHorizontal_iff]

theorem exec_gRegion (x : XCoord) (y : YCoord) (s : State) :
    exec (.gRegion x y) s = .next (s.setRes { s.res with region := regionOf s.mot.prevRegion x y }) := rfl

/-- Settles O28: the latch takes `regionOf`, whose branches are those of R156. -/
theorem regionOfASample : Obligations.RegionOfASample := by
  intro s x y
  rw [exec_gRegion, regionOf_eq]
  rfl

/-- The enable of a region, read (R160). -/
theorem regionEnabled_iff (cfg : ConfigRegs) (r : Region) :
    regionEnabled cfg r = true ↔ (r = .v ∧ cfg.vscrollEn = true) ∨ (r = .h ∧ cfg.hscrollEn = true) := by
  cases r <;> simp [regionEnabled]

/-- Settles O30: the flag is the band and the enable of the region. -/
theorem willScrollNeedsTheBandAndAnEnabledRegion : Obligations.WillScrollNeedsTheBandAndAnEnabledRegion := by
  intro s z r
  refine ⟨willScrollFlag s.cfg z r, rfl, ?_⟩
  rw [willScrollFlag, Bool.and_eq_true, inBand_iff, regionEnabled_iff, and_assoc]

theorem reanchors_iff (m : MotionState) : reanchors m = true ↔ m.touchMode ≠ .vScroll ∨ m.prevZ = 0 := by
  rw [reanchors, Bool.or_eq_true, bne_iff_ne, beq_iff_eq]

/-- The travel of stage 5: none where the reference is re-anchored to the position (R164). -/
theorem coordDiff_anchored (x : XCoord) (y : YCoord) (m : MotionState) :
    coordDiff x (anchored x y m).refX =
      (if m.touchMode ≠ .vScroll ∨ m.prevZ = 0 then 0 else (x.toNat : Int) - (m.refX.toNat : Int)) ∧
    coordDiff y (anchored x y m).refY =
      (if m.touchMode ≠ .vScroll ∨ m.prevZ = 0 then 0 else (y.toNat : Int) - (m.refY.toNat : Int)) := by
  simp only [← reanchors_iff]
  unfold anchored
  split
  · exact ⟨Int.sub_self _, Int.sub_self _⟩
  · exact ⟨rfl, rfl⟩

/-- Settles O32: the event's deltas are the travel from the anchored reference. -/
theorem edgeScrollReportsTheTravelOnTheRegionsAxis : Obligations.EdgeScrollReportsTheTravelOnTheRegionsAxis := by
  intro s x y r now anchors dx dy
  obtain ⟨hdx, hdy⟩ := coordDiff_anchored x y s.mot
  rw [exec_gEdgescroll, stageEdgeScroll, hdx, hdy]
  rfl

/-- Settles O35: the warm-up count saturates as a number does. -/
theorem commitUpdatesThePreviousRegisters : Obligations.CommitUpdatesThePreviousRegisters := by
  intro s x y z r tap tapClick b
  rw [← satSucc_eq_ofNat]
  rfl

/-- Settles O49: `emit` of one event, whose fields are the port's words. -/
theorem eventOperationsEmitOneEvent : Obligations.EventOperationsEmitOneEvent := fun _ _ _ _ _ _ _ => ⟨rfl, rfl⟩

/-- Settles O8: the banks that `RESET` writes are those of `State.reset`. -/
theorem resetForgetsEverythingButTheBuffer : Obligations.ResetForgetsEverythingButTheBuffer := exec_reset

/-- Settles O52: after reset `buf` and the events are empty, `count` is 0 and no button-up is scheduled. -/
theorem resetStateHasTheInvariants : Obligations.ResetStateHasTheInvariants := by
  refine ⟨⟨Memory.wf_reset, fun a ha => absurd ha (Nat.not_lt_zero a), rfl, List.forall_mem_nil _⟩,
    fun hmode => ?_, List.Pairwise.nil, List.forall_mem_nil _, fun harmed => ?_⟩
  · cases hmode
  · cases harmed

end Sys2Proof.Machine
end

section
/-! Streams of bytes (40_framer R103 to R108, R111). The framer with the bytes of a packet in progress in its buffer is
compared with a reference state that dispatches whole packets: one byte appended leaves the reference state alone, the
byte that completes a packet is one dispatch of it, in either mode. -/

namespace Sys2Proof.Machine

/-! ### Bytes in the buffer -/

/-- The buffer begins with these bytes. -/
def Memory.Holds (m : Memory) (bytes : List (Byte × Clk)) : Prop :=
  ∀ (a : Nat) (b : Byte × Clk), bytes[a]? = some b → m.get? a = some b.1

theorem Memory.holds_nil (m : Memory) : m.Holds [] := fun _ _ h => by cases h

/-- The next byte, written behind the ones held. -/
theorem Memory.Holds.write {m : Memory} {bytes : List (Byte × Clk)} (h : m.Holds bytes) (b : Byte × Clk) :
    (m.write bytes.length b.1).Holds (bytes ++ [b]) := by
  intro a c hc
  by_cases heq : a = bytes.length
  · rw [heq, List.getElem?_concat_length, Option.some.injEq] at hc
    rw [heq, Memory.get?_write_same, hc]
  · obtain ⟨hlt, -⟩ := List.getElem?_eq_some_iff.1 hc
    rw [List.length_append, List.length_singleton] at hlt
    rw [List.getElem?_append_left (by omega)] at hc
    rw [Memory.get?_write_other _ _ _ _ heq, h a c hc]

/-- A byte held, read. -/
theorem Memory.Holds.read {m : Memory} {bytes : List (Byte × Clk)} (h : m.Holds bytes) {a : Nat} {b : Byte × Clk}
    (ha : bytes[a]? = some b) : m.read a = b.1 := by
  rw [Memory.read, h a b ha, Option.getD_some]

/-- The bytes held, read in order. -/
theorem Memory.Holds.map_get? {m : Memory} {bytes : List (Byte × Clk)} (h : m.Holds bytes) :
    (List.range bytes.length).map m.get? = (bytes.map Prod.fst).map some := by
  refine List.ext_getElem (by simp) fun a h1 h2 => ?_
  have ha : a < bytes.length := by simpa using h1
  simpa using h a bytes[a] (List.getElem?_eq_getElem ha)

/-! ### The packets of a mode -/

/-- The declared length of a packet (R103). -/
def packetLen : PktMode → Nat
  | .rel4 => Config.lenRel
  | .abs6 => Config.lenAbs

/-- Accepted bytes cut into the packets of a mode (R104, R105). -/
def packets : PktMode → List (Byte × Clk) → List (Instr × Clk)
  | .rel4 => relPackets
  | .abs6 => absPackets

theorem packetLen_le (mode : PktMode) : packetLen mode ≤ 6 := by
  cases mode <;> decide

theorem packets_length (mode : PktMode) (bs : List (Byte × Clk)) :
    (packets mode bs).length = bs.length / packetLen mode := by
  cases mode
  · exact relPackets_length bs
  · exact absPackets_length bs

/-- An incomplete packet is left over. -/
theorem packets_of_short {mode : PktMode} {bs : List (Byte × Clk)} (h : bs.length < packetLen mode) :
    packets mode bs = [] := by
  rw [← List.length_eq_zero_iff, packets_length, Nat.div_eq_of_lt h]

/-! ### The framer's own part of the state -/

/-- The packet buffer and `count` replaced: the framer's own registers. -/
def State.withFramer (s : State) (m : Memory) (n : Fin 6) : State := { s with buf := m, count := n }

theorem State.withFramer_append (s : State) (m : Memory) (n : Fin 6) (b : Byte) :
    (s.withFramer m n).append b = s.withFramer (m.write n.val b) n := rfl

theorem State.withFramer_expireIfDue (s : State) (m : Memory) (n : Fin 6) (t : Clk) :
    (s.withFramer m n).expireIfDue t = (s.expireIfDue t).withFramer m n := by
  rcases State.expireIfDue_cases s t with ⟨hdue, h⟩ | ⟨hdue, h⟩ <;> rw [h]
  · exact if_pos hdue
  · exact if_neg (Bool.eq_false_iff.1 hdue)

/-- A button-up before a dispatch writes MotionState and the events only. -/
theorem State.expireIfDue_frame (s : State) (t : Clk) :
    ∃ mot out, s.expireIfDue t = { s with mot := mot, out := out } := by
  rcases State.expireIfDue_cases s t with ⟨-, h⟩ | ⟨-, h⟩ <;> exact ⟨_, _, h⟩

/-- A byte that leaves its packet incomplete goes into the buffer, and the reference state stays (R102, R103). -/
theorem State.accept_accumulates {s : State} {m : Memory} {n : Fin 6} (b : Byte) (t : Clk)
    (hlt : n.val + 1 < packetLen s.cfg.pktMode) :
    (s.withFramer m n).accept b t = s.withFramer (m.write n.val b) (Fin.ofNat 6 (n.val + 1)) := by
  refine State.accept_of_incomplete b t ?_
  rintro (hfive | ⟨hthree, hmode⟩)
  · have hle := packetLen_le s.cfg.pktMode
    change n.val = 5 at hfive
    omega
  · change n.val = 3 at hthree
    change s.cfg.pktMode = .rel4 at hmode
    rw [hthree, hmode] at hlt
    exact absurd hlt (by decide)

/-- The byte that completes a packet is a due button-up and one dispatch of the packet on the reference state; the
buffer keeps the bytes, and `count` returns to 0 (R103, R104, R105, R108). -/
theorem State.accept_completes {s : State} {m : Memory} {n : Fin 6} {pend : List (Byte × Clk)} (b : Byte × Clk)
    (hm : m.Holds pend) (hn : n.val = pend.length) (hlen : pend.length + 1 = packetLen s.cfg.pktMode) :
    ∃ i mot out,
      (∀ rest, packets s.cfg.pktMode (pend ++ b :: rest) = (i, b.2) :: packets s.cfg.pktMode rest) ∧
      exec i (s.expireIfDue b.2) = .next { s with mot := mot, out := out } ∧
      (s.withFramer m n).accept b.1 b.2 = { s with mot := mot, out := out }.withFramer (m.write n.val b.1) 0 := by
  obtain ⟨mot, out, hdue⟩ := State.expireIfDue_frame s b.2
  cases hmode : s.cfg.pktMode
  case rel4 =>
    rw [hmode] at hlen
    match pend, hlen with
    | [b0, b1, b2], _ =>
      refine ⟨.pktRel4 ⟨b0.1, b1.1, b2.1, b.1⟩ b.2, mot, _, fun _ => rfl, by rw [hdue]; rfl, ?_⟩
      rw [State.accept_of_three (s := s.withFramer m n) b.1 b.2 hn hmode, State.withFramer_append,
        State.withFramer_expireIfDue, hdue, hn]
      change ((State.withFramer _ _ _).dispatchRel4 (m.write 3 b.1).pkt4 b.2).setCount 0 = _
      rw [Memory.pkt4_write, hm.read rfl, hm.read rfl, hm.read rfl]
      rfl
  case abs6 =>
    rw [hmode] at hlen
    match pend, hlen with
    | [b0, b1, b2, b3, b4], _ =>
      refine ⟨.pktAbs6 ⟨b0.1, b1.1, b2.1, b3.1, b4.1, b.1⟩ b.2, _, _, fun _ => rfl, by rw [hdue]; rfl, ?_⟩
      rw [State.accept_of_five (s := s.withFramer m n) b.1 b.2 hn, State.withFramer_append,
        State.withFramer_expireIfDue, hdue, hn]
      change ((State.withFramer _ _ _).dispatchAbs (m.write 5 b.1).pkt6 b.2).setCount 0 = _
      rw [Memory.pkt6_write, hm.read rfl, hm.read rfl, hm.read rfl, hm.read rfl, hm.read rfl]
      rfl

/-! ### A stream of constant mode -/

theorem feedAll_of_discarded {s : State} {b : Byte × Clk} (bs : List (Byte × Clk)) (hc : s.count = 0)
    (hne : startClass s.par b.1 ≠ .ok) : feedAll (b :: bs) s = feedAll bs s := by
  rcases feedAll_cons b bs s with ⟨-, -, h⟩ | ⟨hok, -⟩
  · exact h
  · exact absurd (hok hc) hne

theorem feedAll_of_accepted {s : State} {b : Byte × Clk} (bs : List (Byte × Clk))
    (hok : s.count = 0 → startClass s.par b.1 = .ok) : feedAll (b :: bs) s = feedAll bs (s.accept b.1 b.2) := by
  rcases feedAll_cons b bs s with ⟨hc, hne, -⟩ | ⟨-, h⟩
  · exact absurd (hok hc) hne
  · exact h

/-- Feeding a stream with `pend` already in the buffer does on the reference state what dispatching the packets of
`pend` and the accepted bytes does (R106, R111). -/
theorem feedAll_simulates (bs : List (Byte × Clk)) {s : State} {m : Memory} {n : Fin 6} {pend : List (Byte × Clk)}
    (hm : m.Holds pend) (hn : n.val = pend.length) (hlt : pend.length < packetLen s.cfg.pktMode) :
    let accepted := acceptedBytes s.par (packetLen s.cfg.pktMode) pend.length bs
    ∃ u m' n', feedAll bs (s.withFramer m n) = .next (State.withFramer u m' n') ∧
      dispatchAll (packets s.cfg.pktMode (pend ++ accepted)) s = .next u ∧
      n'.val = (pend.length + accepted.length) % packetLen s.cfg.pktMode := by
  intro accepted
  induction bs generalizing s m n pend with
  | nil =>
    refine ⟨s, m, n, rfl, ?_, ?_⟩
    · rw [show accepted = [] from rfl, List.append_nil, packets_of_short hlt]
      rfl
    · rw [hn]
      exact (Nat.mod_eq_of_lt hlt).symm
  | cons b bs ih =>
    have hzero : n = 0 ↔ pend.length = 0 := by rw [← hn, Fin.ext_iff]; rfl
    rcases acceptedBytes_cons s.par (packetLen s.cfg.pktMode) pend.length b bs with ⟨hpos, hne, hacc⟩ | ⟨hok, hacc⟩
    · rw [feedAll_of_discarded (s := s.withFramer m n) bs (hzero.2 hpos) hne, show accepted = _ from hacc]
      exact ih hm hn hlt
    · rw [feedAll_of_accepted (s := s.withFramer m n) bs (fun hc => hok (hzero.1 hc)),
        show accepted = _ from hacc, List.length_cons]
      by_cases hmore : pend.length + 1 < packetLen s.cfg.pktMode
      · have hle := packetLen_le s.cfg.pktMode
        have hlen : (pend ++ [b]).length = pend.length + 1 := List.length_append
        have hn' : (Fin.ofNat 6 (n.val + 1)).val = (pend ++ [b]).length := by
          rw [Fin.val_ofNat]
          omega
        have hm' := hm.write b
        rw [← hn] at hm'
        rw [State.accept_accumulates b.1 b.2 (by rwa [hn]), Nat.mod_eq_of_lt hmore, ← hlen]
        obtain ⟨u, m', n', hfeed, hdisp, hcount⟩ := ih hm' hn' (by rwa [hlen])
        rw [List.append_assoc] at hdisp
        exact ⟨u, m', n', hfeed, hdisp, by rw [hcount, hlen]; congr 1; omega⟩
      · have hfull : pend.length + 1 = packetLen s.cfg.pktMode := by omega
        obtain ⟨i, mot, out, hpackets, hexec, haccept⟩ := State.accept_completes b hm hn hfull
        rw [haccept, hpackets, dispatchAll_cons _ hexec, hfull, Nat.mod_self]
        obtain ⟨u, m', n', hfeed, hdisp, hcount⟩ := ih (s := { s with mot := mot, out := out })
          (m := m.write n.val b.1) (n := 0) (Memory.holds_nil _) rfl (hfull ▸ Nat.succ_pos _)
        refine ⟨u, m', n', hfeed, hdisp, ?_⟩
        rw [hcount, ← Nat.add_assoc, Nat.add_right_comm, hfull, List.length_nil, Nat.zero_add, Nat.add_mod_left]

/-- A due button-up leaves no `SCROLL`. -/
theorem State.filter_isScroll_dueEvents (s : State) (t : Clk) : (s.dueEvents t).filter Event.isScroll = [] := by
  rw [State.dueEvents]
  split <;> rfl

/-- Relative packets emit one `SCROLL` each (R138). -/
theorem dispatchAll_relPackets_scrolls (bs : List (Byte × Clk)) {s u : State}
    (h : dispatchAll (relPackets bs) s = .next u) :
    ∃ es, u.out = s.out ++ es ∧ (es.filter Event.isScroll).length = (relPackets bs).length := by
  induction bs using relPackets.induct generalizing s with
  | case1 b0 b1 b2 b3 bs ih =>
    rw [relPackets, dispatchAll_cons _ (exec_pktRel4 _ _ _)] at h
    obtain ⟨es, hout, hlen⟩ := ih h
    refine ⟨_, by rw [hout, State.emit_out, State.expireIfDue_out, List.append_assoc, List.append_assoc], ?_⟩
    rw [List.filter_append, State.filter_isScroll_dueEvents, List.nil_append, List.filter_append, List.length_append,
      hlen, relPackets, List.length_cons, Nat.add_comm]
    rfl
  | case2 bs hshort =>
    rw [relPackets.eq_2 bs hshort] at h ⊢
    cases h
    exact ⟨[], (List.append_nil _).symm, rfl⟩

/-- Settles O18: the simulation from an empty buffer, in the mode that stands. -/
theorem onePacketPerDeclaredLengthOfAcceptedBytes : Obligations.OnePacketPerDeclaredLengthOfAcceptedBytes := by
  intro bs s hc
  have hpos : 0 < packetLen s.cfg.pktMode := by cases s.cfg.pktMode <;> decide
  obtain ⟨u, m, n, hfeed, hdisp, hcount⟩ :=
    feedAll_simulates bs (n := s.count) (Memory.holds_nil s.buf) (congrArg Fin.val hc) hpos
  rw [List.nil_append] at hdisp
  rw [List.length_nil, Nat.zero_add] at hcount
  refine ⟨_, u, hfeed, ?_, ?_⟩ <;> intro hmode accepted <;> rw [hmode] at hdisp hcount
  · obtain ⟨es, hout, hscrolls⟩ := dispatchAll_relPackets_scrolls _ hdisp
    exact ⟨hcount, relPackets_length accepted, hdisp, rfl, es, hout, hscrolls.trans (relPackets_length accepted)⟩
  · exact ⟨hcount, absPackets_length accepted, hdisp, rfl⟩

/-! ### The bytes of one packet -/

/-- Feeding the bytes that a packet lacks leaves them in the buffer, and is one dispatch of the whole packet on every
reference state (R102 to R105, R108). -/
theorem feedAll_completes (bs : List (Byte × Clk)) {m : Memory} {n : Fin 6} {pend : List (Byte × Clk)}
    (hm : m.Holds pend) (hn : n.val = pend.length) (hle : pend.length + bs.length ≤ 6) :
    ∃ m' : Memory, m'.Holds (pend ++ bs) ∧ (∀ a, pend.length + bs.length ≤ a → m'.get? a = m.get? a) ∧
      ∀ s : State, bs ≠ [] → pend.length + bs.length = packetLen s.cfg.pktMode →
        (pend = [] → ∀ b ∈ bs.head?, startClass s.par b.1 = .ok) →
        ∃ mot out, dispatchAll (packets s.cfg.pktMode (pend ++ bs)) s = .next { s with mot := mot, out := out } ∧
          feedAll bs (s.withFramer m n) = .next ({ s with mot := mot, out := out }.withFramer m' 0) := by
  induction bs generalizing m n pend with
  | nil =>
    exact ⟨m, by rwa [List.append_nil], fun _ _ => rfl, fun s hne => absurd rfl hne⟩
  | cons b bs ih =>
    rw [List.length_cons] at hle ⊢
    have hm' := hm.write b
    rw [← hn] at hm'
    have hnil (hzero : n = 0) : pend = [] := List.length_eq_zero_iff.1 (hn.symm.trans (congrArg Fin.val hzero))
    cases bs with
    | nil =>
      refine ⟨m.write n.val b.1, hm', fun a ha => Memory.get?_write_other _ _ _ _ ?_, fun s _ hlen hok => ?_⟩
      · rw [List.length_nil] at ha
        omega
      · obtain ⟨i, mot, out, hpackets, hexec, haccept⟩ := State.accept_completes b hm hn hlen
        refine ⟨mot, out, ?_, ?_⟩
        · rw [hpackets, dispatchAll_cons _ hexec, packets_of_short (by rw [← hlen]; exact Nat.succ_pos _)]
          rfl
        · rw [feedAll_of_accepted (s := s.withFramer m n) [] (fun hzero => hok (hnil hzero) b rfl), haccept]
          rfl
    | cons c cs =>
      have hlen : (pend ++ [b]).length = pend.length + 1 := List.length_append
      rw [List.length_cons] at hle ⊢
      have hn' : (Fin.ofNat 6 (n.val + 1)).val = (pend ++ [b]).length := by
        rw [Fin.val_ofNat]
        omega
      obtain ⟨m', hholds, hother, hrun⟩ := ih hm' hn' (by rw [List.length_cons]; omega)
      rw [List.length_cons] at hother hrun
      rw [List.append_assoc] at hholds hrun
      refine ⟨m', hholds, fun a ha => ?_, fun s _ hfull hok => ?_⟩
      · rw [hother a (by omega), Memory.get?_write_other _ _ _ _ (by omega)]
      · obtain ⟨mot, out, hdisp, hfeed⟩ := hrun s (List.cons_ne_nil c cs) (by omega)
          (fun h => absurd h (List.append_ne_nil_of_right_ne_nil _ (List.cons_ne_nil b [])))
        refine ⟨mot, out, hdisp, ?_⟩
        rw [feedAll_of_accepted (s := s.withFramer m n) _ (fun hzero => hok (hnil hzero) b rfl),
          State.accept_accumulates b.1 b.2 (by omega)]
        exact hfeed

/-- A whole packet fed while SEEKING: its bytes stand in the buffer, and the feeding is one dispatch of it on the state
with that buffer. -/
theorem feedAll_packet {bs : List (Byte × Clk)} {s : State} (hc : s.count = 0)
    (hlen : bs.length = packetLen s.cfg.pktMode) (hok : ∀ b ∈ bs.head?, startClass s.par b.1 = .ok) :
    ∃ m u, Memory.Holds m bs ∧ (∀ a, bs.length ≤ a → m.get? a = s.buf.get? a) ∧
      dispatchAll (packets s.cfg.pktMode bs) { s with buf := m } = .next u ∧ feedAll bs s = .next u := by
  have hle := packetLen_le s.cfg.pktMode
  have hpos : 0 < packetLen s.cfg.pktMode := by cases s.cfg.pktMode <;> decide
  obtain ⟨m, hholds, hother, hrun⟩ := feedAll_completes bs (Memory.holds_nil s.buf) (congrArg Fin.val hc)
    (by rw [List.length_nil]; omega)
  rw [List.nil_append] at hholds
  rw [List.length_nil, Nat.zero_add] at hother hrun
  obtain ⟨mot, out, hdisp, hfeed⟩ := hrun { s with buf := m } (List.ne_nil_of_length_pos (by omega)) hlen fun _ => hok
  refine ⟨m, _, hholds, hother, hdisp, hfeed.trans ?_⟩
  rw [State.withFramer, hc]

/-- Settles O19: the dispatch of the packet, with no button-up owed before it. -/
theorem sixBytesMakeOneAbsolutePacket : Obligations.SixBytesMakeOneAbsolutePacket := by
  intro s p c0 c1 c2 c3 c4 t hc hmode hidle hack hhdr
  obtain ⟨m, u, hholds, hother, hdisp, hfeed⟩ :=
    feedAll_packet (bs := [(p.p0, c0), (p.p1, c1), (p.p2, c2), (p.p3, c3), (p.p4, c4), (p.p5, t)]) hc
      (by rw [hmode]; rfl) (fun b hb => by cases hb; exact startClass_eq_ok hack hhdr)
  have hexec : exec (.pktAbs6 p t) (({ s with buf := m } : State).expireIfDue t) = .next u := by
    rw [hmode] at hdisp
    exact (dispatchAll_cons [] (exec_pktAbs6 p t _)).symm.trans hdisp
  rw [State.expireIfDue_unarmed { s with buf := m } t hidle] at hexec
  exact ⟨m, u, hholds 0 _ rfl, hholds 1 _ rfl, hholds 2 _ rfl, hholds 3 _ rfl, hholds 4 _ rfl, hholds 5 _ rfl, hother,
    hexec, hfeed⟩

/-! ### The script lines `ABS` and `REL4` -/

theorem State.expireIfDue_withInput (s : State) (l : List PortWord) (t : Clk) :
    ({ s with input := l } : State).expireIfDue t = { s.expireIfDue t with input := l } := by
  rcases State.expireIfDue_cases s t with ⟨hdue, h⟩ | ⟨hdue, h⟩ <;> rw [h]
  · exact if_pos hdue
  · exact if_neg (Bool.eq_false_iff.1 hdue)

theorem State.accept_withInput (s : State) (l : List PortWord) (b : Byte) (t : Clk) :
    ({ s with input := l } : State).accept b t = { s.accept b t with input := l } := by
  have hdue : (({ s with input := l } : State).append b).expireIfDue t =
      { (s.append b).expireIfDue t with input := l } := State.expireIfDue_withInput (s.append b) l t
  rcases State.accept_cases s b t with ⟨hthree, hmode, h⟩ | ⟨hfive, h⟩ | ⟨hfive, hrel, h⟩ <;> rw [h]
  · rw [State.accept_of_three (s := { s with input := l }) b t hthree hmode, hdue]
    rfl
  · rw [State.accept_of_five (s := { s with input := l }) b t hfive, hdue]
    rfl
  · exact State.accept_of_incomplete (s := { s with input := l }) b t (fun hc => hc.elim hfive hrel)

/-- A `FEED` neither reads nor writes the script (R92). -/
theorem exec_feed_withInput {s u : State} {b : Byte} {t : Clk} (l : List PortWord) (h : exec (.feed b t) s = .next u) :
    exec (.feed b t) { s with input := l } = .next { u with input := l } := by
  rcases execFeed_cases b t s with ⟨hc, hne, he⟩ | ⟨hok, he⟩ <;> cases he.symm.trans h
  · exact execFeed_of_discarded (s := { s with input := l }) t hc hne
  · exact (exec_feed_of_accepted (s := { s with input := l }) t hok).trans (by rw [State.accept_withInput])

/-- Steps over the words of bytes are these bytes fed one at a time (R92, R100). -/
theorem stepTimes_byteWords (bs : List (Byte × Clk)) {s : State} {rest : List PortWord}
    (hin : s.input = bs.map (fun b => byteWord b.1 b.2) ++ rest) :
    stepTimes bs.length s = feedAll bs { s with input := rest } := by
  induction bs generalizing s with
  | nil =>
    subst hin
    rfl
  | cons b bs ih =>
    obtain ⟨u, hu⟩ := exec_answers (.feed b.1 b.2) { s with input := bs.map (fun b => byteWord b.1 b.2) ++ rest }
    have hstep : step s = .next u := (byteStepIsAWholeFeed s b.1 b.2 _ hin).trans hu
    obtain ⟨-, -, hinput, -⟩ := exec_feed_frame hu
    have hfeed : exec (.feed b.1 b.2) { s with input := rest } = .next { u with input := rest } :=
      exec_feed_withInput (s := { s with input := bs.map (fun b => byteWord b.1 b.2) ++ rest }) rest hu
    rw [List.length_cons, stepTimes_succ _ hstep, ih hinput]
    simp only [feedAll, hfeed]

/-- A line of bytes that makes a whole packet while SEEKING runs, one step for each byte, to one dispatch (R93). -/
theorem stepTimes_packet {bs : List (Byte × Clk)} {s : State} {rest : List PortWord}
    (hin : s.input = bs.map (fun b => byteWord b.1 b.2) ++ rest) (hc : s.count = 0)
    (hlen : bs.length = packetLen s.cfg.pktMode) (hok : ∀ b ∈ bs.head?, startClass s.par b.1 = .ok) :
    ∃ m u, (List.range bs.length).map (Memory.get? m) = (bs.map Prod.fst).map some ∧
      (∀ a, bs.length ≤ a → m.get? a = s.buf.get? a) ∧
      dispatchAll (packets s.cfg.pktMode bs) { s with buf := m, input := rest } = .next u ∧
      stepTimes bs.length s = .next u := by
  obtain ⟨m, u, hholds, hother, hdisp, hfeed⟩ := feedAll_packet (s := { s with input := rest }) hc hlen hok
  exact ⟨m, u, hholds.map_get?, hother, hdisp, (stepTimes_byteWords bs hin).trans hfeed⟩

/-- A well-formed first byte is in class `START.OK` (R71, R93). -/
theorem startClass_of_wf_startOk {par : Params} {b : Byte} (h : (Instr.startOk b).wf par = true) :
    startClass par b = .ok := by
  rw [Instr.wf, Bool.and_eq_true, bne_iff_ne, beq_iff_eq] at h
  obtain ⟨hack, hhdr⟩ := h
  exact startClass_eq_ok hack hhdr

/-- Settles O60: each line is the words of its bytes, the last with the line's own clock value. -/
theorem pseudoOperationLineMakesOnePacket : Obligations.PseudoOperationLineMakesOnePacket := by
  refine ⟨?abs, ?rel⟩
  case abs =>
    intro s n rest x y z left right tap tapClick b0 t line p hwf hc hmode hin
    obtain ⟨m, u, hbytes, hother, hdisp, hrun⟩ := stepTimes_packet
      (bs := [(p.p0, Config.freeClk n), (p.p1, Config.freeClk (n + 1)), (p.p2, Config.freeClk (n + 2)),
        (p.p3, Config.freeClk (n + 3)), (p.p4, Config.freeClk (n + 4)), (p.p5, t)]) hin hc
      (by rw [hmode]; rfl) (fun b hb => by cases hb; exact startClass_of_wf_startOk hwf)
    rw [hmode] at hdisp
    exact ⟨m, u, hbytes, hother, by cases b0 <;> rfl, hdisp, hrun⟩
  case rel =>
    intro s n rest dxr dyr btn w t p hok hc hmode hin
    obtain ⟨m, u, hbytes, hother, hdisp, hrun⟩ := stepTimes_packet
      (bs := [(p.p0, Config.freeClk n), (p.p1, Config.freeClk (n + 1)), (p.p2, Config.freeClk (n + 2)), (p.p3, t)])
      hin hc (by rw [hmode]; rfl) (fun b hb => by cases hb; exact hok)
    rw [hmode] at hdisp
    exact ⟨m, u, hbytes, hother, hdisp, hrun⟩

end Sys2Proof.Machine
end
